-- ==== Sys2Proof/Word.lean ====
section
/-! DEFINITION. Bytes, and the fixed tables the part keeps (slots, resources, clients, lines). -/

namespace Sys2Proof

/-- A byte of a frame, a response, the staging buffer or a bank (00_scope, bit and byte order). -/
abbrev Byte := BitVec 8

/-- The row of `n` cells whose cell `i` is `f i`. -/
def Table.tab {n : Nat} {α : Type} (f : Fin n → α) : Vector α n := ⟨⟨List.ofFn f⟩, by simp⟩

/-- Cell `i` of a row. -/
def Table.get {n : Nat} {α : Type} (t : Vector α n) (i : Fin n) : α := t[i]

/-- The row with cell `i` replaced. -/
def Table.put {n : Nat} {α : Type} (t : Vector α n) (i : Fin n) (x : α) : Vector α n := t.set i x

/-- The row of `n` equal cells. -/
def Table.fill (n : Nat) {α : Type} (x : α) : Vector α n := Vector.replicate n x

end Sys2Proof
end

