-- ==== Sys2Proof/Config.lean ====
section
/-! DEFINITION. The part's fixed numbers, and the one value the manual leaves open. -/

namespace Sys2Proof.Config

/-- A generation counts modulo this (R2). -/
def generations : Nat := 1024

/-- The last value of a fence counter (R32). -/
def fenceMax : Nat := 4294967295

/-- Renewals stay at this count (R16). -/
def renewalsMax : Nat := 255

/-- Most untaken ticks ARB counts (R67). -/
def untakenMax : Nat := 3

/-- Factory divider (R64). -/
def factoryDivider : Nat := 1000

/-- Least divider (R64); the greatest is 65535. -/
def dividerMin : Nat := 16

/-- Factory quota (R133). -/
def factoryQuota : Nat := 16

/-- Bytes of an image, a bank and the staging buffer (R179, R181). -/
def imageBytes : Nat := 512

/-- Filler byte of both buses (12.1). -/
def filler : Byte := 0xFF

/-- Header of a client fetch (12.1). -/
def fetchHeader : Byte := 0xA5

/-- The format tag, most significant byte first (12.5). -/
def formatTag : Byte × Byte := (0x4D, 0x57)

/-- I2C address with both address straps clear (R163). -/
def i2cBase : Nat := 0x4C

/-- FREE VALUE (log 8). Which bytes of the bank the `n`-th cut burn had written: R185 says only that the
content is whatever part of the staging bytes the burn had written. -/
opaque cutBurnWrote : Nat → Nat → Bool

end Sys2Proof.Config
end

