-- ==== Sys2Proof/Syntax.lean ====
section
/-! DEFINITION. The commands: one constructor for each row of opcode_table.json. -/

namespace Sys2Proof

/-- A client, the number of its select (00_scope). -/
abbrev Client := Fin 6

/-- A resource number (R24). -/
abbrev ResourceId := Fin 32

/-- A slot number of the lease table (R1). -/
abbrev SlotId := Fin 64

/-- The port a request of both ports came from (R164). -/
inductive Sender where
  | client (n : Client)
  | management
  deriving DecidableEq, Repr

/-- How the select of a client transaction stood with LINK (R147, R151). -/
inductive Select where
  /-- LINK served it, unless the reset pin stands asserted at its end. -/
  | served
  /-- Another select was being served when it became active (R147). -/
  | passedOver
  /-- It was active while a reset took effect or the reset pin stood asserted (R151). -/
  | cutByReset
  deriving DecidableEq, Repr

/-- The start of a management transaction: the I2C address sent, and whether a reset took effect, or the reset pin
stood asserted, while the transaction was in progress (R163, R166). -/
structure BusStart where
  address : BitVec 7
  cut : Bool
  deriving DecidableEq, Repr

/-- The commands. A request's own arguments travel in its frame and stand in the port's request buffer
(R151); a taking row names only whose request ARB hands on (log 1). -/
inductive Instr where
  /-- Select `n` ends a transaction of whole bytes `bytes` (header first) and `stray` further bits;
  `select` says how the select stood (R147, R151, log 13). -/
  | requestTransaction (n : Client) (select : Select) (bytes : List Byte) (stray : Fin 8)
  /-- Select `n` ends a fetch of `clocked` whole bytes, header included (R154). -/
  | fetch (n : Client) (select : Select) (clocked : Nat) (stray : Fin 8)
  /-- An I2C write begun by `start` ends after `bytes` (R164, R166, log 13). -/
  | managementWrite (start : BusStart) (bytes : List Byte)
  /-- An I2C read begun by `start` ends after `clocked` whole bytes (R165, R166, log 13). -/
  | managementRead (start : BusStart) (clocked : Nat)
  | openSession (n : Client)
  | closeSession (n : Client)
  | status (n : Client)
  | setHeartbeat (n : Client)
  | acquire (n : Client)
  | renew (n : Client)
  | release (n : Client)
  | cancel (n : Client)
  | scan (n : Client)
  | ack (n : Client)
  | queryLease (from_ : Sender)
  | queryResource (from_ : Sender)
  | checkFence (from_ : Sender)
  | defineResource
  | readDefinition
  | setProfile
  | readProfile
  | setQuota
  | setDivider
  | bar
  | unbar
  | forceRevoke
  | lift
  | takeOffline
  | bringOnline
  | enterMaintenance
  | leaveMaintenance
  | enterSafe
  | serviceReset
  | restartComplete
  | partStatus
  | querySession
  | capture
  | writeStaging
  | readStaging
  | burn
  | bankStatus
  /-- The burn ends; `misread` lists the bytes at which the bank reads back otherwise than burned
  (R184, log 9). -/
  | burnEnd (misread : List (Fin 512 × Byte))
  /-- TGEN produces a tick while HB0-HB5 stand at `hb`, yes for HIGH (R67, R128). -/
  | tick (hb : Vector Bool 6)
  | tickTaken
  /-- The waiter in slot `k` lapses: the waiting tick that brings this about is taken (R71, log 4). -/
  | lapse (k : SlotId)
  /-- The lease in slot `k` expires: the waiting tick that brings this about is taken (R72, log 4). -/
  | expiry (k : SlotId)
  /-- The quarantine of `r` runs out: the waiting tick that brings this about is taken (R73, log 4). -/
  | quarantineEnd (r : ResourceId)
  | renewAll (n : Client)
  /-- The supply comes up with the straps so set (R163, R187). -/
  | powerOnReset (address : Fin 4) (imageSkip : Bool)
  | resetPinAssert
  /-- The reset pin is released with the straps so set (R163, R187). -/
  | resetPinRelease (address : Fin 4) (imageSkip : Bool)
  | loadEnd
  deriving DecidableEq, Repr

end Sys2Proof
end

