-- ==== Sys2Proof/WellFormed.lean ====
section
/-! DEFINITION. Which commands are well formed. Operand widths are in their types; what is left is checked here. -/

namespace Sys2Proof

/-- A request transaction's header is no FETCH code: that transaction is the row FETCH (R148). -/
def WellFormed.header (bytes : List Byte) : Bool := bytes.head? != some Config.fetchHeader

/-- A read-back names each byte position at most once (R184). -/
def WellFormed.misread (l : List (Fin 512 × Byte)) : Bool := (l.map Prod.fst).dedup.length == l.length

/-- The check of a command's operands. `exec` does not need it: every term has a meaning. -/
def Instr.wellFormed : Instr → Bool
  | .requestTransaction _ _ bytes _ => WellFormed.header bytes
  | .fetch _ _ _ _ => true
  | .managementWrite _ _ => true
  | .managementRead _ _ => true
  | .openSession _ => true
  | .closeSession _ => true
  | .status _ => true
  | .setHeartbeat _ => true
  | .acquire _ => true
  | .renew _ => true
  | .release _ => true
  | .cancel _ => true
  | .scan _ => true
  | .ack _ => true
  | .queryLease _ => true
  | .queryResource _ => true
  | .checkFence _ => true
  | .defineResource => true
  | .readDefinition => true
  | .setProfile => true
  | .readProfile => true
  | .setQuota => true
  | .setDivider => true
  | .bar => true
  | .unbar => true
  | .forceRevoke => true
  | .lift => true
  | .takeOffline => true
  | .bringOnline => true
  | .enterMaintenance => true
  | .leaveMaintenance => true
  | .enterSafe => true
  | .serviceReset => true
  | .restartComplete => true
  | .partStatus => true
  | .querySession => true
  | .capture => true
  | .writeStaging => true
  | .readStaging => true
  | .burn => true
  | .bankStatus => true
  | .burnEnd misread => WellFormed.misread misread
  | .tick _ => true
  | .tickTaken => true
  | .lapse _ => true
  | .expiry _ => true
  | .quarantineEnd _ => true
  | .renewAll _ => true
  | .powerOnReset _ _ => true
  | .resetPinAssert => true
  | .resetPinRelease _ _ => true
  | .loadEnd => true

end Sys2Proof
end

