-- ==== Sys2Proof/Decode.lean ====
section
/-! DEFINITION. The command a word of the table spells. opcode_table.json gives no row any bits, so no word
spells a command; the frames of chapter 12 are read in Machine/Operands.lean. -/

namespace Sys2Proof

/-- No row of the table has bits: every word is refused. -/
def decodeTableWord (_nbits _w : Nat) : Option Instr := none

end Sys2Proof
end

