-- ==== Sys2Proof/Machine/Memory.lean ====
section
/-! DEFINITION. The addressed buffers of 512 bytes: the staging buffer and the banks (R179, R181). -/

namespace Sys2Proof.Machine

/-- A buffer: its bytes that are not 0, by rising address. -/
abbrev Memory := List Host.Cell

/-- What an unlisted address reads as: a cleared buffer holds every byte 0 (R181). For a bank never
burned this is log 7. -/
def Memory.unlisted : Byte := 0

/-- The byte at address `a`. -/
def Memory.read : Memory → Nat → Byte
  | [], _ => Memory.unlisted
  | (b, v) :: m, a => if b = a then v else Memory.read m a

/-- `v` put before the rest of a buffer unless it is what an unlisted address reads as. -/
def Memory.cons (a : Nat) (v : Byte) (m : Memory) : Memory :=
  if v = Memory.unlisted then m else (a, v) :: m

/-- The buffer with the byte at `a` replaced by `v`. -/
def Memory.write : Memory → Nat → Byte → Memory
  | [], a, v => Memory.cons a v []
  | (b, w) :: m, a, v =>
    if a < b then Memory.cons a v ((b, w) :: m)
    else if a = b then Memory.cons a v m
    else (b, w) :: Memory.write m a v

/-- The buffer with the bytes from `a` onward replaced by `bytes`, in order (R181). -/
def Memory.writeAll : Memory → Nat → List Byte → Memory
  | m, _, [] => m
  | m, a, v :: vs => Memory.writeAll (m.write a v) (a + 1) vs

/-- The `n` bytes from `a` onward (R181). -/
def Memory.readAll (m : Memory) (a n : Nat) : List Byte := (List.range n).map fun i => m.read (a + i)

/-- The buffer that holds `bytes` from address `a` onward and nothing else. -/
def Memory.ofBytes : Nat → List Byte → Memory
  | _, [] => []
  | a, v :: vs => Memory.cons a v (Memory.ofBytes (a + 1) vs)

/-- Every address listed is at least `a`, addresses rise, none is listed with the unlisted byte, and none
is past the buffer's end. -/
def Memory.wfFrom : Nat → Memory → Bool
  | _, [] => true
  | a, (b, v) :: m => decide (a ≤ b) && decide (b < Config.imageBytes) && (v != Memory.unlisted) && Memory.wfFrom (b + 1) m

/-- The canonical form of a buffer. -/
def Memory.wf (m : Memory) : Bool := Memory.wfFrom 0 m

end Sys2Proof.Machine
end

