-- ==== Sys2Proof/Machine/State.lean ====
section
/-! DEFINITION. All the state the spec gives the part, and the part right after a power-on reset. -/

namespace Sys2Proof.Machine

/-! ## Resources (chapter 2) -/

/-- What a resource is (R25). -/
inductive Kind where
  | line | token
  deriving DecidableEq, Repr

/-- A resource's definition: the nine fields of R25. `safeHigh` is yes for safe level HIGH. -/
structure Definition where
  defined : Bool
  kind : Kind
  safeHigh : Bool
  capacity : Nat
  lead : Nat
  quarantine : Nat
  queueLimit : Nat
  profile : Fin 4
  startOnline : Bool
  deriving DecidableEq, Repr

/-- The factory definition (R25). -/
def Definition.factory : Definition :=
  { defined := false, kind := .token, safeHigh := false, capacity := 6, lead := 0, quarantine := 0,
    queueLimit := 8, profile := 0, startOnline := false }

/-- A resource's standing (R28, R29). Quarantine remaining is present only in QUARANTINE. -/
inductive ResourceState where
  | offline | free | exclusive | shared | draining
  | quarantine (remaining : Nat)
  deriving DecidableEq, Repr

/-- A resource's run record (R28) with its wait queue (R44): the slots of its WAITING records, oldest
first. A slot stands for the handle, since a record's generation does not change (R3). -/
structure Run where
  state : ResourceState
  holders : Nat
  band : Nat
  fence : Nat
  spent : Bool
  queue : List SlotId
  deriving DecidableEq, Repr

/-- The run record after a power-on reset (R31). -/
def Run.powerOn : Run :=
  { state := .offline, holders := 0, band := 0, fence := 0, spent := false, queue := [] }

/-- One resource of the table (R24). -/
structure Resource where
  defn : Definition
  run : Run
  deriving DecidableEq, Repr

/-! ## Lease records (chapter 1) -/

/-- R11. -/
inductive Mode where
  | exclusive | shared
  deriving DecidableEq, Repr

/-- R14. -/
inductive Patience where
  | ticks (n : Nat)
  | unbounded
  deriving DecidableEq, Repr

/-- Why a record ended (R19, R100). BARRED stands only within the happening of a BAR (R102). -/
inductive Cause where
  | expired | forced | offline | barred | patience
  deriving DecidableEq, Repr

/-- R8. -/
inductive HeldState where
  | active | warned
  deriving DecidableEq, Repr

/-- The fields a record has only while it is held, and its state (R9). -/
structure Held where
  state : HeldState
  remaining : Nat
  fence : Nat
  renewals : Nat
  deriving DecidableEq, Repr

/-- A record's state with the fields R9 gives that state. -/
inductive Standing where
  | waiting (patience : Patience)
  | held (h : Held)
  | revoked (fence : Nat) (cause : Cause)
  | lapsed (cause : Cause)
  deriving DecidableEq, Repr

/-- The unseen set (R18, R134). -/
structure Unseen where
  granted : Bool
  warned : Bool
  squeezed : Bool
  revoked : Bool
  lapsed : Bool
  deriving DecidableEq, Repr

/-- The empty unseen set. -/
def Unseen.empty : Unseen :=
  { granted := false, warned := false, squeezed := false, revoked := false, lapsed := false }

/-- A record of the lease table (R9). -/
structure Record where
  client : Client
  resource : ResourceId
  mode : Mode
  asked : Nat
  tag : Option Nat
  lineRenewable : Bool
  unseen : Unseen
  standing : Standing
  deriving DecidableEq, Repr

/-- A slot: its generation, and a record unless it is FREE (R1, R2). -/
structure Slot where
  generation : Nat
  record : Option Record
  deriving DecidableEq, Repr

/-! ## Profiles and sessions (chapters 5 and 7) -/

/-- A profile's twelve values (R86). -/
structure Profile where
  t1 : Nat
  t2 : Nat
  t3 : Nat
  h : Nat
  c0 : Nat
  c1 : Nat
  c2 : Nat
  c3 : Nat
  l0 : Nat
  l1 : Nat
  l2 : Nat
  l3 : Nat
  deriving DecidableEq, Repr

/-- The factory profile (R86). -/
def Profile.factory : Profile :=
  { t1 := 4, t2 := 8, t3 := 16, h := 1, c0 := 65535, c1 := 65535, c2 := 65535, c3 := 65535,
    l0 := 0, l1 := 0, l2 := 0, l3 := 0 }

/-- R117. -/
inductive SessionState where
  | closed | opened | barred
  deriving DecidableEq, Repr

/-- A session record (R117). -/
structure Session where
  state : SessionState
  epoch : Nat
  quota : Nat
  count : Nat
  deriving DecidableEq, Repr

/-! ## The lease engine and the fault summary -/

/-- MCTL's fault summary (R172). FENCE_SPENT carries a resource number while it is set. -/
structure Faults where
  tickSlip : Bool
  imageBad : Bool
  imageSkipped : Bool
  burnSpoilt : Bool
  fenceSpent : Option ResourceId
  deriving DecidableEq, Repr

/-- The clear fault summary. -/
def Faults.clear : Faults :=
  { tickSlip := false, imageBad := false, imageSkipped := false, burnSpoilt := false, fenceSpent := none }

/-- What LENG owns: the lease table, resource table with wait queues, profiles and sessions. MCTL's fault
summary stands with them because an exhaustion sets FENCE_SPENT inside a LENG happening (R33). -/
structure Engine where
  slots : Vector Slot 64
  resources : Vector Resource 32
  profiles : Vector Profile 4
  sessions : Vector Session 6
  faults : Faults
  deriving DecidableEq, Repr

/-! ## Heartbeats (chapter 7) -/

/-- R127. -/
inductive Selection where
  | off | rising | falling | both
  deriving DecidableEq, Repr

/-- The previous sample of HBn (R127). -/
inductive Sample where
  | low | high | invalid
  deriving DecidableEq, Repr

/-- What HBS keeps for a client (R127). -/
structure Heartbeat where
  selection : Selection
  previous : Sample
  renewalPending : Bool
  deriving DecidableEq, Repr

/-- What HBS keeps for a client after every kind of reset (R130). -/
def Heartbeat.cleared : Heartbeat := { selection := .off, previous := .invalid, renewalPending := false }

/-! ## Ports (chapters 9 and 10) -/

/-- Request kinds of the client ports (12.2). -/
inductive ClientKind where
  | openSession | closeSession | status | setHeartbeat | acquire | renew | release | cancel | scan | ack
  | queryLease | queryResource | checkFence
  deriving DecidableEq, Repr

/-- Request kinds of the management port (12.2). -/
inductive MgmtKind where
  | queryLease | queryResource | checkFence
  | defineResource | readDefinition | setProfile | readProfile | setQuota | setDivider
  | bar | unbar | forceRevoke | lift | takeOffline | bringOnline
  | enterMaintenance | leaveMaintenance | enterSafe | serviceReset | partStatus | querySession
  | capture | writeStaging | readStaging | burn | bankStatus
  deriving DecidableEq, Repr

/-- A checked request: kind, epoch byte and argument bytes (R149). -/
structure Request (κ : Type) where
  kind : κ
  epoch : Byte
  args : List Byte
  deriving DecidableEq, Repr

/-- A port's state with what its buffers hold in that state (R151). -/
inductive PortStanding (κ : Type) where
  | idle
  | queued (q : Request κ)
  | ready (response : List Byte)
  deriving DecidableEq, Repr

/-- A port record with its pending flags (R151). -/
structure Port (κ : Type) where
  standing : PortStanding κ
  overlap : Bool
  priorDiscarded : Bool
  deriving DecidableEq, Repr

/-- A port after a reset (R151, R166). -/
def Port.cleared {κ : Type} : Port κ := { standing := .idle, overlap := false, priorDiscarded := false }

/-! ## Lines, image store and part state (chapters 2, 10 and 11) -/

/-- A level LDRV drives (R38). -/
inductive LineLevel where
  | low | high | undriven
  deriving DecidableEq, Repr

/-- R179. -/
inductive BankId where
  | a | b
  deriving DecidableEq, Repr

/-- A bank's state as last derived (R179). BURNING is reported from `ImageStore.burning`. -/
inductive BankState where
  | blank | written | spoilt
  deriving DecidableEq, Repr

/-- A bank (R179). -/
structure Bank where
  content : Memory
  started : Bool
  finished : Bool
  state : BankState
  deriving DecidableEq, Repr

/-- A bank never burned. -/
def Bank.new : Bank := { content := [], started := false, finished := false, state := .blank }

/-- The source of a configuration (R186, R187). -/
inductive LoadSource where
  | bankA | bankB | factoryUnprogrammed | factorySkipped | factorySpoilt
  deriving DecidableEq, Repr

/-- What IMS holds (R179, R181, R184, R186). -/
structure ImageStore where
  bankA : Bank
  bankB : Bank
  staging : Memory
  burning : Option BankId
  source : LoadSource
  deriving DecidableEq, Repr

/-- R167. -/
inductive PartState where
  | starting | service | maintenance | safe
  deriving DecidableEq, Repr

/-- The whole part. -/
structure State where
  engine : Engine
  /-- HBS (R127). -/
  heartbeats : Vector Heartbeat 6
  /-- ARB's count of untaken ticks (R159). -/
  untaken : Nat
  /-- ARB's round-robin pointer (R159). -/
  pointer : Client
  /-- TGEN (R64, R65). -/
  divider : Nat
  elapsed : Nat
  running : Bool
  /-- LINK's six port records (R151). -/
  ports : Vector (Port ClientKind) 6
  /-- MPORT (R163). -/
  mport : Port MgmtKind
  addressStraps : Fin 4
  /-- LDRV (R38). -/
  lines : Vector LineLevel 16
  /-- ATTU, yes for active (R139). -/
  attention : Vector Bool 6
  images : ImageStore
  /-- MCTL (R167). -/
  part : PartState
  /-- The load in progress, with the source chosen at its start (R187). -/
  load : Option LoadSource
  /-- STARTING was entered by SERVICE RESET (R167). -/
  restarting : Bool
  /-- The reset pin is asserted. -/
  resetPin : Bool
  /-- HB0-HB5 as last presented, yes for HIGH (log 12). -/
  hbPins : Vector Bool 6
  /-- MODEL'S OWN: bytes driven on the client data line in the last client transaction (log 16). -/
  clientData : List Byte
  /-- MODEL'S OWN: bytes driven on I2C in the last management transaction (log 16). -/
  mgmtData : List Byte
  /-- MODEL'S OWN: MPORT acknowledged the last I2C address (log 16). -/
  mgmtAck : Bool
  /-- MODEL'S OWN: how many free values have been used (log 8). -/
  freeIndex : Nat
  /-- MODEL'S OWN: the commands waiting, first in first out. -/
  pending : List Instr
  deriving DecidableEq, Repr

/-- Why a step could stop: nothing stops this part, so there is no fault (safe: every command goes on). -/
inductive Fault where
  deriving DecidableEq, Repr

/-- Why a command could have no meaning. -/
inductive Refusal where
  /-- Raised by `exec` for a row without a meaning; no arm raises it (safe: it stops). -/
  | notModelled (mnemonic : String)
  deriving DecidableEq, Repr

/-- LENG and the fault summary after a power-on reset (R23, R31, R133, R172). Definitions, profiles and
quotas are set by the load that follows; until then log 7. -/
def Engine.powerOn : Engine :=
  { slots := Table.fill 64 { generation := 0, record := none }
    resources := Table.fill 32 { defn := .factory, run := .powerOn }
    profiles := Table.fill 4 .factory
    sessions := Table.fill 6 { state := .closed, epoch := 0, quota := Config.factoryQuota, count := 0 }
    faults := .clear }

/-- The part right after a power-on reset of a new part, both strap kinds clear, its load begun (log 6). -/
def State.reset : State :=
  { engine := .powerOn
    heartbeats := Table.fill 6 .cleared
    untaken := 0
    pointer := 0
    divider := Config.factoryDivider
    elapsed := 0
    running := false
    ports := Table.fill 6 .cleared
    mport := .cleared
    addressStraps := 0
    lines := Table.fill 16 .undriven
    attention := Table.fill 6 false
    images := { bankA := .new, bankB := .new, staging := [], burning := none, source := .factoryUnprogrammed }
    part := .starting
    load := some .factoryUnprogrammed
    restarting := false
    resetPin := false
    hbPins := Table.fill 6 false
    clientData := []
    mgmtData := []
    mgmtAck := false
    freeIndex := 0
    pending := [] }

end Sys2Proof.Machine
end

