-- ==== Sys2Proof/Machine/Ops.lean ====
section
/-! DEFINITION. The named reads and writes of the part's tables, and the freeing of records (R1 to R7). -/

namespace Sys2Proof.Machine

/-! ## Reads and writes of the engine's tables -/

def Engine.slot (e : Engine) (k : SlotId) : Slot := Table.get e.slots k

/-- The record in slot `k`, or none where the slot is FREE. -/
def Engine.record (e : Engine) (k : SlotId) : Option Record := (e.slot k).record

def Engine.defn (e : Engine) (r : ResourceId) : Definition := (Table.get e.resources r).defn

def Engine.run (e : Engine) (r : ResourceId) : Run := (Table.get e.resources r).run

def Engine.session (e : Engine) (n : Client) : Session := Table.get e.sessions n

/-- The profile that resource `r` names (R86). -/
def Engine.profileOf (e : Engine) (r : ResourceId) : Profile := Table.get e.profiles (e.defn r).profile

def Engine.setSlot (e : Engine) (k : SlotId) (x : Slot) : Engine := { e with slots := Table.put e.slots k x }

/-- A change of the record in a slot that keeps the generation (R2, R7). -/
def Engine.putRecord (e : Engine) (k : SlotId) (rec : Record) : Engine :=
  e.setSlot k { e.slot k with record := some rec }

def Engine.setRun (e : Engine) (r : ResourceId) (x : Run) : Engine :=
  { e with resources := Table.put e.resources r { Table.get e.resources r with run := x } }

def Engine.setDefn (e : Engine) (r : ResourceId) (x : Definition) : Engine :=
  { e with resources := Table.put e.resources r { Table.get e.resources r with defn := x } }

def Engine.setSession (e : Engine) (n : Client) (x : Session) : Engine :=
  { e with sessions := Table.put e.sessions n x }

def Engine.setProfile (e : Engine) (p : Fin 4) (x : Profile) : Engine :=
  { e with profiles := Table.put e.profiles p x }

def Engine.setState (e : Engine) (r : ResourceId) (st : ResourceState) : Engine :=
  e.setRun r { e.run r with state := st }

def Engine.setQueue (e : Engine) (r : ResourceId) (q : List SlotId) : Engine :=
  e.setRun r { e.run r with queue := q }

/-- Every record replaced by what `f` makes of it; slots, generations and all else stay (R7). -/
def Engine.mapRecords (e : Engine) (f : SlotId → Record → Record) : Engine :=
  { e with slots := Table.tab fun k => { e.slot k with record := (e.record k).map (f k) } }

/-! ## What a record is (R8) -/

def Standing.isWaiting : Standing → Bool
  | .waiting _ => true
  | _ => false

def Standing.isHeld : Standing → Bool
  | .held _ => true
  | _ => false

/-- Live: WAITING, ACTIVE or WARNED (R8). -/
def Standing.isLive (x : Standing) : Bool := x.isWaiting || x.isHeld

def Record.isWaiting (rec : Record) : Bool := rec.standing.isWaiting

def Record.isHeld (rec : Record) : Bool := rec.standing.isHeld

def Record.isLive (rec : Record) : Bool := rec.standing.isLive

/-- ACTIVE or WARNED by the warning lead (R75): WARNED exactly at or below a nonzero lead. -/
def heldState (lead remaining : Nat) : HeldState :=
  if lead ≠ 0 ∧ remaining ≤ lead then .warned else .active

/-! ## Counting and finding records -/

/-- How many slots hold a record that passes `p`. -/
def Engine.countWhere (e : Engine) (p : Record → Bool) : Nat :=
  (List.finRange 64).countP fun k => (e.record k).any p

/-- The number of non-FREE slots (R1). -/
def Engine.usedSlots (e : Engine) : Nat := e.countWhere fun _ => true

/-- The lowest-numbered FREE slot (R5). -/
def Engine.firstFree (e : Engine) : Option SlotId :=
  (List.finRange 64).find? fun k => (e.record k).isNone

/-- The lowest-numbered slot whose record passes `p`. -/
def Engine.firstWhere (e : Engine) (p : Record → Bool) : Option SlotId :=
  (List.finRange 64).find? fun k => (e.record k).any p

/-! ## Handles (R3, R4, R20) -/

/-- The record a handle reaches: none where the handle is stale (R4). -/
def Engine.current (e : Engine) (k : SlotId) (generation : Nat) : Option Record :=
  if (e.slot k).generation = generation then e.record k else none

/-! ## Taking and giving back a slot (R5, R6) -/

/-- A record put into a FREE slot; its client's record count rises by one (R5). -/
def Engine.create (e : Engine) (k : SlotId) (rec : Record) : Engine :=
  let s := e.session rec.client
  (e.putRecord k rec).setSession rec.client { s with count := s.count + 1 }

/-- The generation after a freeing (R2). -/
def nextGeneration (g : Nat) : Nat := (g + 1) % Config.generations

/-- A slot after a freeing of whatever it holds: a FREE slot keeps its generation (R2, R23). -/
def Slot.freed (x : Slot) : Slot :=
  match x.record with
  | none => x
  | some _ => { generation := nextGeneration x.generation, record := none }

/-- The record in slot `k` freed (R6). A FREE slot stays as it is. -/
def Engine.freeSlot (e : Engine) (k : SlotId) : Engine :=
  match e.record k with
  | none => e
  | some rec =>
    let s := e.session rec.client
    (e.setSlot k (e.slot k).freed).setSession rec.client { s with count := s.count - 1 }

/-- Every record freed, as at a reset and at entry to SAFE; every record count is then 0 (R23, R133, R170). -/
def Engine.freeAll (e : Engine) : Engine :=
  { e with slots := Table.tab fun k => (e.slot k).freed
           sessions := Table.tab fun n => { e.session n with count := 0 } }

/-! ## Reads and writes of the whole part -/

def State.heartbeat (s : State) (n : Client) : Heartbeat := Table.get s.heartbeats n

def State.setHeartbeat (s : State) (n : Client) (x : Heartbeat) : State :=
  { s with heartbeats := Table.put s.heartbeats n x }

def State.port (s : State) (n : Client) : Port ClientKind := Table.get s.ports n

def State.setPort (s : State) (n : Client) (x : Port ClientKind) : State :=
  { s with ports := Table.put s.ports n x }

def State.setMport (s : State) (x : Port MgmtKind) : State := { s with mport := x }

def State.setEngine (s : State) (e : Engine) : State := { s with engine := e }

def State.setImages (s : State) (x : ImageStore) : State := { s with images := x }

def State.setFaults (s : State) (f : Faults) : State := s.setEngine { s.engine with faults := f }

end Sys2Proof.Machine
end

