-- ==== Sys2Proof/Machine/Operands.lean ====
section
/-! DEFINITION. How bytes are read and written: frames, arguments, responses, records and images
(chapters 9 and 12). -/

namespace Sys2Proof.Machine

/-! ## Check sums (R149, R180) -/

/-- One bit of the CRC-8 with polynomial x^8+x^2+x+1 (R149). -/
def crc8Bit (c : Byte) : Byte := if c.msb then (c <<< 1) ^^^ 0x07 else c <<< 1

/-- CRC-8 of a list of bytes, initial value 0 (R149). -/
def crc8 (bytes : List Byte) : Byte := bytes.foldl (fun c b => crc8Bit^[8] (c ^^^ b)) 0

/-- One bit of the CRC-16 with polynomial x^16+x^12+x^5+1 (R180). -/
def crc16Bit (c : BitVec 16) : BitVec 16 := if c.msb then (c <<< 1) ^^^ 0x1021 else c <<< 1

/-- CRC-16 of a list of bytes, initial value 0xFFFF (R180). -/
def crc16 (bytes : List Byte) : BitVec 16 :=
  bytes.foldl (fun c b => crc16Bit^[8] (c ^^^ ((b.setWidth 16 : BitVec 16) <<< (8 : Nat)))) 0xFFFF

/-! ## Numbers as bytes, most significant byte first (00_scope, bit and byte order) -/

def byte (n : Nat) : Byte := BitVec.ofNat 8 n

def bytes2 (n : Nat) : List Byte := [byte (n / 256), byte n]

def bytes4 (n : Nat) : List Byte := [byte (n / 16777216), byte (n / 65536), byte (n / 256), byte n]

/-- Argument byte `i`, counted from the byte after the length byte. -/
def argByte (args : List Byte) (i : Nat) : Nat := (args.getD i 0).toNat

def argWord (args : List Byte) (i : Nat) : Nat := argByte args i * 256 + argByte args (i + 1)

def argLong (args : List Byte) (i : Nat) : Nat := argWord args i * 65536 + argWord args (i + 2)

/-! ## Kinds (12.2) -/

def ClientKind.all : List ClientKind :=
  [.openSession, .closeSession, .status, .setHeartbeat, .acquire, .renew, .release, .cancel, .scan, .ack,
   .queryLease, .queryResource, .checkFence]

def ClientKind.code : ClientKind → Byte
  | .openSession => 0x01
  | .closeSession => 0x02
  | .status => 0x03
  | .setHeartbeat => 0x04
  | .acquire => 0x10
  | .renew => 0x11
  | .release => 0x12
  | .cancel => 0x13
  | .scan => 0x14
  | .ack => 0x15
  | .queryLease => 0x20
  | .queryResource => 0x21
  | .checkFence => 0x22

/-- The argument lengths a client kind accepts (12.2). -/
def ClientKind.accepts (n : Nat) : ClientKind → Bool
  | .openSession | .closeSession | .status | .scan => n == 0
  | .setHeartbeat | .queryResource => n == 1
  | .acquire => n == 7 || n == 9
  | .renew => n == 2 || n == 4
  | .release | .cancel | .queryLease => n == 2
  | .ack => n == 3
  | .checkFence => n == 5

def MgmtKind.all : List MgmtKind :=
  [.queryLease, .queryResource, .checkFence, .defineResource, .readDefinition, .setProfile, .readProfile,
   .setQuota, .setDivider, .bar, .unbar, .forceRevoke, .lift, .takeOffline, .bringOnline, .enterMaintenance,
   .leaveMaintenance, .enterSafe, .serviceReset, .partStatus, .querySession, .capture, .writeStaging,
   .readStaging, .burn, .bankStatus]

def MgmtKind.code : MgmtKind → Byte
  | .queryLease => 0x20
  | .queryResource => 0x21
  | .checkFence => 0x22
  | .defineResource => 0x40
  | .readDefinition => 0x41
  | .setProfile => 0x42
  | .readProfile => 0x43
  | .setQuota => 0x44
  | .setDivider => 0x45
  | .bar => 0x48
  | .unbar => 0x49
  | .forceRevoke => 0x4A
  | .lift => 0x4B
  | .takeOffline => 0x4C
  | .bringOnline => 0x4D
  | .enterMaintenance => 0x50
  | .leaveMaintenance => 0x51
  | .enterSafe => 0x52
  | .serviceReset => 0x53
  | .partStatus => 0x54
  | .querySession => 0x55
  | .capture => 0x60
  | .writeStaging => 0x61
  | .readStaging => 0x62
  | .burn => 0x63
  | .bankStatus => 0x64

/-- The argument lengths a management kind accepts (12.2). -/
def MgmtKind.accepts (n : Nat) : MgmtKind → Bool
  | .enterMaintenance | .leaveMaintenance | .enterSafe | .serviceReset | .capture | .bankStatus => n == 0
  | .queryResource | .readDefinition | .setProfile | .readProfile | .bar | .unbar | .lift | .bringOnline
  | .partStatus | .querySession | .burn => n == 1
  | .queryLease | .setQuota | .setDivider | .forceRevoke | .takeOffline => n == 2
  | .readStaging => n == 3
  | .checkFence => n == 5
  | .defineResource => n == 7
  | .writeStaging => 3 ≤ n && n ≤ 12

/-- The client kind a code names, if any (R150, check 4). -/
def ClientKind.ofCode (c : Byte) : Option ClientKind := ClientKind.all.find? fun k => k.code == c

/-- The management kind a code names, if any (R164). -/
def MgmtKind.ofCode (c : Byte) : Option MgmtKind := MgmtKind.all.find? fun k => k.code == c

/-! ## Status codes (12.3) -/

inductive Status where
  | ok | granted | queued | started | none | current | staleFence | revoked | lapsed | fenceSpent | inUse | contended
  | noResource | offline | mode | held | quota | busyResource | queueFull | tableFull | stale | notHolder
  | wrongState | notOpen | staleSession | barred | maintenance | safe
  | badFrame | badCheck | badKind | badLength | badArg | badProfile | bankUsed | busy
  deriving DecidableEq, Repr

def Status.code : Status → Byte
  | .ok => 0x00
  | .granted => 0x01
  | .queued => 0x02
  | .started => 0x03
  | .none => 0x04
  | .current => 0x05
  | .staleFence => 0x06
  | .revoked => 0x07
  | .lapsed => 0x08
  | .fenceSpent => 0x09
  | .inUse => 0x0A
  | .contended => 0x0B
  | .noResource => 0x0C
  | .offline => 0x0D
  | .mode => 0x0E
  | .held => 0x0F
  | .quota => 0x10
  | .busyResource => 0x11
  | .queueFull => 0x12
  | .tableFull => 0x13
  | .stale => 0x14
  | .notHolder => 0x15
  | .wrongState => 0x16
  | .notOpen => 0x17
  | .staleSession => 0x18
  | .barred => 0x19
  | .maintenance => 0x1A
  | .safe => 0x1B
  | .badFrame => 0x20
  | .badCheck => 0x21
  | .badKind => 0x22
  | .badLength => 0x23
  | .badArg => 0x24
  | .badProfile => 0x25
  | .bankUsed => 0x26
  | .busy => 0x27

/-- What a rule answers: a status, and the content bytes its rule lists (R155, R192). -/
structure Answer where
  status : Status
  content : List Byte
  deriving DecidableEq, Repr

/-- The status alone (R192). -/
def Answer.bare (st : Status) : Answer := { status := st, content := [] }

/-! ## Frames (R149, R150) -/

/-- The check of a frame: the failing status, or the kind, epoch and arguments of a checked request. -/
inductive Checked (κ : Type) where
  | faulty (st : Status)
  | request (q : Request κ)
  deriving DecidableEq, Repr

/-- The five checks of R150, in order. `ofCode` and `accepts` give the port's kinds (R150, R164). -/
def checkFrame {κ : Type} (ofCode : Byte → Option κ) (accepts : Nat → κ → Bool) (bytes : List Byte) : Checked κ :=
  let n := (bytes.getD 2 0).toNat
  if 3 ≤ bytes.length ∧ 12 < n then .faulty .badLength
  else if bytes.length < 4 ∨ bytes.length ≠ 4 + n then .faulty .badFrame
  else if bytes.getD (3 + n) 0 ≠ crc8 (bytes.take (3 + n)) then .faulty .badCheck
  else
    match ofCode (bytes.getD 0 0) with
    | none => .faulty .badKind
    | some k =>
      if accepts n k then .request { kind := k, epoch := bytes.getD 1 0, args := (bytes.drop 3).take n }
      else .faulty .badLength

/-- The check of a client frame (R150). -/
def checkClientFrame (bytes : List Byte) : Checked ClientKind := checkFrame ClientKind.ofCode ClientKind.accepts bytes

/-- The check of a management frame (R164). -/
def checkMgmtFrame (bytes : List Byte) : Checked MgmtKind := checkFrame MgmtKind.ofCode MgmtKind.accepts bytes

/-- A request frame (R149): what a sender writes for a kind code, an epoch byte and arguments. -/
def frame (kind epoch : Byte) (args : List Byte) : List Byte :=
  let body := kind :: epoch :: byte args.length :: args
  body ++ [crc8 body]

/-! ## Responses (12.3, R192) -/

/-- The flag field of a response (12.3). -/
def flagByte (overlap priorDiscarded : Bool) : Byte :=
  (if overlap then 1 else 0) + (if priorDiscarded then 2 else 0)

/-- A response: status, flags, kind or header, length, content, check byte (12.3). -/
def response (overlap priorDiscarded : Bool) (kind : Byte) (a : Answer) : List Byte :=
  let body := a.status.code :: flagByte overlap priorDiscarded :: kind :: byte (5 + a.content.length) :: a.content
  body ++ [crc8 body]

/-! ## Codes of arguments and records (R191, 12.4) -/

/-- A handle's slot: the six most significant bits (R191). -/
def handleSlot (w : Nat) : SlotId := Fin.ofNat 64 (w / 1024)

/-- A handle's generation: the ten least significant bits (R191). -/
def handleGeneration (w : Nat) : Nat := w % 1024

/-- The handle of the record in slot `k` (R3). -/
def handleBytes (k : SlotId) (generation : Nat) : List Byte := bytes2 (k.val * 1024 + generation % 1024)

def modeOf : Nat → Option Mode
  | 0 => some .exclusive
  | 1 => some .shared
  | _ => none

def yesNoOf : Nat → Option Bool
  | 0 => some false
  | 1 => some true
  | _ => none

def selectionOf : Nat → Option Selection
  | 0 => some .off
  | 1 => some .rising
  | 2 => some .falling
  | 3 => some .both
  | _ => none

def Selection.code : Selection → Byte
  | .off => 0
  | .rising => 1
  | .falling => 2
  | .both => 3

def bankOf : Nat → Option BankId
  | 0 => some .a
  | 1 => some .b
  | _ => none

/-- A change set of ACK; none where one of bits 5 to 7 is set (R191). -/
def changeSetOf (n : Nat) : Option Unseen :=
  if n < 32 then
    some { granted := n.testBit 0, warned := n.testBit 1, squeezed := n.testBit 2, revoked := n.testBit 3,
           lapsed := n.testBit 4 }
  else none

/-- A clear set of PART STATUS; none where one of bits 5 to 7 is set (R191). -/
structure ClearSet where
  tickSlip : Bool
  imageBad : Bool
  imageSkipped : Bool
  burnSpoilt : Bool
  fenceSpent : Bool
  deriving DecidableEq, Repr

def clearSetOf (n : Nat) : Option ClearSet :=
  if n < 32 then
    some { tickSlip := n.testBit 0, imageBad := n.testBit 1, imageSkipped := n.testBit 2,
           burnSpoilt := n.testBit 3, fenceSpent := n.testBit 4 }
  else none

/-- Five flags as bits 0 to 4. -/
def bits5 (b0 b1 b2 b3 b4 : Bool) : Byte :=
  byte (b0.toNat + 2 * b1.toNat + 4 * b2.toNat + 8 * b3.toNat + 16 * b4.toNat)

def Unseen.code (u : Unseen) : Byte := bits5 u.granted u.warned u.squeezed u.revoked u.lapsed

/-- The two bytes of the fault summary (R192). -/
def Faults.bytes (f : Faults) : List Byte :=
  [bits5 f.tickSlip f.imageBad f.imageSkipped f.burnSpoilt f.fenceSpent.isSome,
   byte ((f.fenceSpent.map Fin.val).getD 0)]

def yesNo (b : Bool) : Byte := if b then 1 else 0

/-- Record state codes (12.4). -/
def Standing.code : Standing → Byte
  | .waiting _ => 1
  | .held h => match h.state with
    | .active => 2
    | .warned => 3
  | .revoked _ _ => 4
  | .lapsed _ => 5

/-- Cause codes (12.4); 0x04 is never sent. -/
def Cause.code : Cause → Byte
  | .expired => 1
  | .forced => 2
  | .offline => 3
  | .barred => 4
  | .patience => 5

/-- The cause byte of a record: 0x00 where the cause is absent (12.4). -/
def Standing.causeByte : Standing → Byte
  | .revoked _ c => c.code
  | .lapsed c => c.code
  | _ => 0

/-- Patience as carried (R191, R192). -/
def Patience.bytes : Patience → List Byte
  | .ticks n => bytes2 n
  | .unbounded => bytes2 65535

/-- The patience an ACQUIRE carries (R48, R191). -/
def patienceOf (n : Nat) : Patience := if n = 65535 then .unbounded else .ticks n

def ResourceState.code : ResourceState → Byte
  | .offline => 0
  | .free => 1
  | .exclusive => 2
  | .shared => 3
  | .draining => 4
  | .quarantine _ => 5

/-- Quarantine remaining as carried, 0 when absent (12.4). -/
def ResourceState.quarantineByte : ResourceState → Byte
  | .quarantine n => byte n
  | _ => 0

def LineLevel.code : LineLevel → Nat
  | .low => 0
  | .high => 1
  | .undriven => 2

/-- Part state codes (12.4). STARTING has none: no request is taken in it (R157). -/
def PartState.code : PartState → Byte
  | .service => 1
  | .maintenance => 2
  | .safe => 3
  | .starting => 0

def SessionState.code : SessionState → Byte
  | .closed => 0
  | .opened => 1
  | .barred => 2

def BankState.code : BankState → Byte
  | .blank => 0
  | .written => 1
  | .spoilt => 2

def LoadSource.code : LoadSource → Byte
  | .bankA => 0
  | .bankB => 1
  | .factoryUnprogrammed => 2
  | .factorySkipped => 3
  | .factorySpoilt => 4

/-! ## Definitions (12.5, R26, R193) -/

/-- The six bytes of a definition. -/
def Definition.bytes (d : Definition) : List Byte :=
  [byte (d.defined.toNat + 2 * (decide (d.kind = .line)).toNat + 4 * d.safeHigh.toNat + 8 * d.startOnline.toNat),
   byte d.capacity, byte d.lead, byte d.quarantine, byte d.queueLimit, byte d.profile.val]

/-- The definition in six bytes for resource `r` if it is valid (R26, R193); a LINE definition's carried
capacity is not examined and 1 takes its place. -/
def definitionOf (r : Nat) (f : Nat → Nat) : Option Definition :=
  let line := (f 0).testBit 1
  if 16 ≤ f 0 then none
  else if line ∧ 16 ≤ r ∧ r < 32 then none
  else if ¬ line ∧ (f 1 < 1 ∨ 6 < f 1) then none
  else if f 4 < 1 ∨ 63 < f 4 then none
  else if h : f 5 < 4 then
    some { defined := (f 0).testBit 0, kind := if line then .line else .token, safeHigh := (f 0).testBit 2,
           capacity := if line then 1 else f 1, lead := f 2, quarantine := f 3, queueLimit := f 4,
           profile := ⟨f 5, h⟩, startOnline := (f 0).testBit 3 }
  else none

/-- A stored definition is valid (R26). -/
def Definition.valid (r : ResourceId) (d : Definition) : Bool :=
  decide (1 ≤ d.capacity ∧ d.capacity ≤ 6 ∧ d.lead ≤ 255 ∧ d.quarantine ≤ 255 ∧ 1 ≤ d.queueLimit ∧ d.queueLimit ≤ 63) &&
    (d.kind != .line || (decide (r.val < 16) && d.capacity == 1))

/-! ## Profiles (12.5, R87) -/

def Profile.bytes (p : Profile) : List Byte :=
  [byte p.t1, byte p.t2, byte p.t3, byte p.h] ++ bytes2 p.c0 ++ bytes2 p.c1 ++ bytes2 p.c2 ++ bytes2 p.c3 ++
    [byte p.l0, byte p.l1, byte p.l2, byte p.l3]

/-- The twelve values in the sixteen bytes of a profile's entry. -/
def profileOf (f : Nat → Nat) : Profile :=
  { t1 := f 0, t2 := f 1, t3 := f 2, h := f 3
    c0 := f 4 * 256 + f 5, c1 := f 6 * 256 + f 7, c2 := f 8 * 256 + f 9, c3 := f 10 * 256 + f 11
    l0 := f 12, l1 := f 13, l2 := f 14, l3 := f 15 }

/-- Every value of the profile lies in its range (R86). -/
def Profile.inRange (p : Profile) : Bool :=
  [p.t1, p.t2, p.t3].all (fun t => decide (1 ≤ t ∧ t ≤ 63)) && decide (p.h ≤ 7) &&
    [p.c0, p.c1, p.c2, p.c3].all (fun c => decide (1 ≤ c ∧ c ≤ 65535)) &&
    [p.l0, p.l1, p.l2, p.l3].all (fun l => decide (l ≤ 255))

/-- The two orderings of R87. -/
def Profile.ordered (p : Profile) : Bool :=
  decide (p.t1 < p.t2 ∧ p.t2 < p.t3 ∧ p.c1 ≤ p.c0 ∧ p.c2 ≤ p.c1 ∧ p.c3 ≤ p.c2)

/-- A valid profile (R87). -/
def Profile.valid (p : Profile) : Bool := p.inRange && p.ordered

/-! ## Records in responses (12.4) -/

/-- The queue position of slot `k` on its resource, counted from 1 at the head (R46). -/
def Engine.position (e : Engine) (r : ResourceId) (k : SlotId) : Nat := (e.run r).queue.idxOf k + 1

/-- The lease record of QUERY LEASE (12.4, R21). Bits 3 to 7 of byte 3, which 12.4 does not assign, are sent 0
(DESIGN CHOICE, log 22). -/
def leaseBytes (e : Engine) (k : SlotId) (rec : Record) : List Byte :=
  [rec.standing.code, byte rec.client.val, byte rec.resource.val,
    byte ((decide (rec.mode = .shared)).toNat + 2 * rec.lineRenewable.toNat + 4 * rec.tag.isSome.toNat)] ++
  bytes2 rec.asked ++ bytes2 (rec.tag.getD 0) ++ [rec.unseen.code, rec.standing.causeByte] ++
  (match rec.standing with
    | .waiting p => p.bytes ++ [byte (e.position rec.resource k)]
    | .held h => bytes2 h.remaining ++ bytes4 h.fence ++ [byte h.renewals]
    | .revoked fence _ => bytes4 fence
    | .lapsed _ => [])

/-- The level byte LDRV's line of resource `r` reports: 3 where the resource has no line (R36). -/
def lineCode (lines : Vector LineLevel 16) (r : ResourceId) : Nat :=
  if h : r.val < 16 then (Table.get lines ⟨r.val, h⟩).code else 3

/-- The resource record of QUERY RESOURCE (12.4, R36). Bits 3 to 7 of byte 15, which 12.4 does not assign, are sent 0
(DESIGN CHOICE, log 22). -/
def resourceBytes (s : State) (r : ResourceId) : List Byte :=
  let x := s.engine.run r
  (s.engine.defn r).bytes ++
  [x.state.code, byte x.holders, byte x.queue.length, byte x.band, x.state.quarantineByte] ++ bytes4 x.fence ++
  [byte (x.spent.toNat + 2 * lineCode s.lines r)]

/-! ## The image (R180, 12.5) -/

def imageDefinitions : Nat := 2
def imageProfiles : Nat := 258
def imageQuotas : Nat := 322
def imageDivider : Nat := 328
def imageCheck : Nat := 510

/-- The check word over the first 510 bytes of a buffer (R180). -/
def Memory.checkWord (m : Memory) : Nat := (crc16 (m.readAll 0 imageCheck)).toNat

/-- The format tag is present (R180). -/
def Memory.tagPresent (m : Memory) : Bool :=
  m.read 0 == Config.formatTag.1 && m.read 1 == Config.formatTag.2

/-- The check word is good (R180). -/
def Memory.checkGood (m : Memory) : Bool := m.readAll imageCheck 2 == bytes2 m.checkWord

/-- Byte `i` of the definition of resource `r` in an image, as a number. -/
def Memory.definitionByte (m : Memory) (r : ResourceId) (i : Nat) : Nat :=
  (m.read (imageDefinitions + 8 * r.val + i)).toNat

/-- Byte `i` of profile `p`'s entry in an image, as a number. -/
def Memory.profileByte (m : Memory) (p : Fin 4) (i : Nat) : Nat :=
  (m.read (imageProfiles + 16 * p.val + i)).toNat

/-- The first 510 bytes of the configuration in force in image form (R182, R193). -/
def configBytes (e : Engine) (divider : Nat) : List Byte :=
  [Config.formatTag.1, Config.formatTag.2] ++
  (List.finRange 32).flatMap (fun r => (e.defn r).bytes ++ [0, 0]) ++
  (List.finRange 4).flatMap (fun p => (Table.get e.profiles p).bytes) ++
  (List.finRange 6).map (fun n => byte (e.session n).quota) ++
  bytes2 divider ++ List.replicate 180 0

/-- The image CAPTURE makes: the configuration with its check word (R182). -/
def imageOf (e : Engine) (divider : Nat) : Memory :=
  Memory.ofBytes 0 (configBytes e divider ++ bytes2 (crc16 (configBytes e divider)).toNat)

end Sys2Proof.Machine
end

