-- ==== Sys2Proof/Machine/Flags.lean ====
section
/-! DEFINITION. Flags and levels: unseen sets, the ports' pending flags and the placing of responses, and the
levels of L0-L15 and ATN0-ATN5 (chapters 2, 8 and 9). -/

namespace Sys2Proof.Machine

/-! ## Unseen sets (R134) -/

def Unseen.isEmpty (u : Unseen) : Bool := !(u.granted || u.warned || u.squeezed || u.revoked || u.lapsed)

/-- The members of `u` that `v` does not name (R144). -/
def Unseen.without (u v : Unseen) : Unseen :=
  { granted := u.granted && !v.granted, warned := u.warned && !v.warned, squeezed := u.squeezed && !v.squeezed,
    revoked := u.revoked && !v.revoked, lapsed := u.lapsed && !v.lapsed }

/-- WARNED added where a record passes from `before` to WARNED (R76). -/
def Unseen.warn (u : Unseen) (before after : HeldState) : Unseen :=
  { u with warned := u.warned || (before == .active && after == .warned) }

/-- The record belongs to client `n` and its unseen set is not empty. -/
def Record.noticed (n : Client) (rec : Record) : Bool := decide (rec.client = n) && !rec.unseen.isEmpty

/-! ## Ports: storing requests and placing responses (R152, R153, R155) -/

/-- A response placed: the pending flags go into it and are then cleared (R153). -/
def Port.place {κ : Type} (p : Port κ) (kind : Byte) (a : Answer) : Port κ :=
  { standing := .ready (response p.overlap p.priorDiscarded kind a), overlap := false, priorDiscarded := false }

/-- What a port does with a frame that has passed or failed its checks (R152, R164). A response that LINK
places in an IDLE port carries neither flag. -/
def Port.deliver {κ : Type} (p : Port κ) (header : Byte) (c : Checked κ) : Port κ :=
  match p.standing, c with
  | .idle, .request q => { p with standing := .queued q }
  | .idle, .faulty st => Port.cleared.place header (.bare st)
  | .queued _, _ => { p with overlap := true }
  | .ready _, .request q => { p with standing := .queued q, priorDiscarded := true }
  | .ready _, .faulty st => { p with priorDiscarded := true }.place header (.bare st)

/-- The port-state byte and what follows it in a fetch, and whether a fetch that drives `n` whole bytes from
the port-state byte on reads the response to its end (R154, R165). -/
def Port.fetchBytes {κ : Type} (p : Port κ) : List Byte :=
  match p.standing with
  | .idle => [0x00]
  | .queued _ => [0x01]
  | .ready resp => 0x02 :: resp

/-- The port after a fetch that drives `n` whole bytes from the port-state byte on (R154, R165). -/
def Port.afterFetch {κ : Type} (p : Port κ) (n : Nat) : Port κ :=
  match p.standing with
  | .ready resp => if 1 + resp.length ≤ n then { p with standing := .idle } else p
  | _ => p

/-- The first `n` bytes of `l` followed by filler (R148). -/
def driven (n : Nat) (l : List Byte) : List Byte := (l ++ List.replicate n Config.filler).take n

/-! ## Output lines (R38) -/

/-- The safe level of a LINE resource's line. -/
def Definition.safeLevel (d : Definition) : LineLevel := if d.safeHigh then .high else .low

/-- The granted level, the one that is not the safe level (R38). -/
def Definition.grantedLevel (d : Definition) : LineLevel := if d.safeHigh then .low else .high

/-- The level of the line of a resource (R38). -/
def lineLevel (part : PartState) (restarting : Bool) (d : Definition) (st : ResourceState) : LineLevel :=
  if d.defined && d.kind == .line then
    match part with
    | .starting => if restarting then d.safeLevel else .undriven
    | .service => if st = .exclusive then d.grantedLevel else d.safeLevel
    | .maintenance => if st = .exclusive then d.grantedLevel else d.safeLevel
    | .safe => d.safeLevel
  else .undriven

/-- The resource that owns line `n` (R24). -/
def lineResource (n : Fin 16) : ResourceId := ⟨n.val, by omega⟩

/-- The levels R38 gives for the state as it stands. -/
def State.linesOf (s : State) : Vector LineLevel 16 :=
  Table.tab fun n =>
    lineLevel s.part s.restarting (s.engine.defn (lineResource n)) (s.engine.run (lineResource n)).state

/-- ATNn is active: client `n` owns a record whose unseen set is not empty (R139). -/
def Engine.hasNotice (e : Engine) (n : Client) : Bool := (e.firstWhere (Record.noticed n)).isSome

/-- The levels R139 gives for the state as it stands. -/
def State.attentionOf (s : State) : Vector Bool 6 := Table.tab fun n => s.engine.hasNotice n

/-- The end of a happening: LDRV and ATTU set their levels from the state it leaves (R39, R139). -/
def State.settle (s : State) : State := { s with lines := s.linesOf, attention := s.attentionOf }

end Sys2Proof.Machine
end

