-- ==== Sys2Proof/Machine/Bands.lean ====
section
/-! DEFINITION. Contention bands: the band rule, ceilings, limits and the squeeze (chapter 5). -/

namespace Sys2Proof.Machine

/-- Threshold T(b) of band `b`, 1 to 3 (R86). -/
def Profile.threshold (p : Profile) : Nat → Nat
  | 0 => 0
  | 1 => p.t1
  | 2 => p.t2
  | _ => p.t3

/-- Ceiling Cb (R92). -/
def Profile.ceiling (p : Profile) : Nat → Nat
  | 0 => p.c0
  | 1 => p.c1
  | 2 => p.c2
  | _ => p.c3

/-- Renewal limit Lb (R93). -/
def Profile.limit (p : Profile) : Nat → Nat
  | 0 => p.l0
  | 1 => p.l1
  | 2 => p.l2
  | _ => p.l3

/-- R90 step 1, at most `fuel` times: three suffice, since there are four bands. -/
def bandRise (p : Profile) (depth : Nat) : Nat → Nat → Nat
  | 0, b => b
  | fuel + 1, b => if b < 3 ∧ p.threshold (b + 1) + p.h ≤ depth then bandRise p depth fuel (b + 1) else b

/-- R90 step 2, at most `fuel` times. -/
def bandFall (p : Profile) (depth : Nat) : Nat → Nat → Nat
  | 0, b => b
  | fuel + 1, b => if 0 < b ∧ depth < p.threshold b then bandFall p depth fuel (b - 1) else b

/-- The squeeze of one record to the ceiling `c` under the warning lead `lead` (R94). -/
def Record.squeeze (lead c : Nat) (rec : Record) : Record :=
  match rec.standing with
  | .held h =>
    if c < h.remaining then
      let st := if h.state = .warned then .warned else heldState lead c
      { rec with standing := .held { h with state := st, remaining := c }
                 unseen := { rec.unseen.warn h.state st with squeezed := true } }
    else rec
  | _ => rec

/-- Every held record on `r` squeezed to the ceiling of its band (R94). -/
def Engine.squeeze (e : Engine) (r : ResourceId) : Engine :=
  e.mapRecords fun _ rec =>
    if rec.resource = r then rec.squeeze (e.defn r).lead ((e.profileOf r).ceiling (e.run r).band) else rec

def Engine.setBand (e : Engine) (r : ResourceId) (b : Nat) : Engine := e.setRun r { e.run r with band := b }

/-- The band rule for `r` (R90): a rise squeezes, and a run that rises does not fall. -/
def Engine.bandRule (e : Engine) (r : ResourceId) : Engine :=
  let p := e.profileOf r
  let depth := (e.run r).queue.length
  let b := (e.run r).band
  let up := bandRise p depth 3 b
  if b < up then (e.setBand r up).squeeze r else e.setBand r (bandFall p depth 3 b)

/-- A record leaves its queue, those behind it close the gap, and the band rule runs (R45). -/
def Engine.leaveQueue (e : Engine) (r : ResourceId) (k : SlotId) : Engine :=
  (e.setQueue r ((e.run r).queue.erase k)).bandRule r

/-- A renewal of a record is refused CONTENDED (R78). -/
def Engine.contended (e : Engine) (r : ResourceId) (h : Held) : Bool :=
  let limit := (e.profileOf r).limit (e.run r).band
  !(e.run r).queue.isEmpty && limit != 0 && decide (limit ≤ h.renewals)

/-- The ceiling of the resource's current band (R92). -/
def Engine.ceiling (e : Engine) (r : ResourceId) : Nat := (e.profileOf r).ceiling (e.run r).band

/-- The renewal rule (R79): the held fields and the record after a renewal that is not refused. -/
def Engine.renewed (e : Engine) (rec : Record) (h : Held) (term : Option Nat) : Record × Held :=
  let asked := term.getD rec.asked
  let remaining := min asked (e.ceiling rec.resource)
  let st := heldState (e.defn rec.resource).lead remaining
  let h' := { h with state := st, remaining := remaining,
                     renewals := if h.renewals < Config.renewalsMax then h.renewals + 1 else h.renewals }
  ({ rec with asked := asked, standing := .held h', unseen := rec.unseen.warn h.state st }, h')

end Sys2Proof.Machine
end

