-- ==== Sys2Proof/Machine/Admission.lean ====
section
/-! DEFINITION. Holder sets, grants, fence exhaustion and admission (chapters 2 and 3). -/

namespace Sys2Proof.Machine

/-- The state a grant of a record of this mode gives its resource (R42). -/
def Mode.grantedState : Mode → ResourceState
  | .exclusive => .exclusive
  | .shared => .shared

/-- A grant on `r`: fence counter and holder count rise, and the state follows the mode (R42). -/
def Engine.joinHolders (e : Engine) (r : ResourceId) (m : Mode) : Engine :=
  let x := e.run r
  e.setRun r { x with state := m.grantedState, holders := x.holders + 1, fence := x.fence + 1 }

/-- The resource state after a holder of mode `m` leaves with `holders` left (R43). -/
def departedState (m : Mode) (st : ResourceState) (holders : Nat) : ResourceState :=
  match m, st with
  | .exclusive, .exclusive => .free
  | .shared, .shared => if holders = 0 then .free else .shared
  | _, st => st

/-- A held record of mode `m` leaves the holder set of `r` (R43). -/
def Engine.depart (e : Engine) (r : ResourceId) (m : Mode) : Engine :=
  let x := e.run r
  e.setRun r { x with state := departedState m x.state (x.holders - 1), holders := x.holders - 1 }

/-- The held fields at a grant under a ceiling (R54, R58). -/
def grantedHeld (lead ceiling asked fence : Nat) : Held :=
  { state := heldState lead (min asked ceiling), remaining := min asked ceiling, fence := fence, renewals := 0 }

/-- The run record of a resource that goes OFFLINE (R30). -/
def Run.offline (x : Run) : Run := { x with state := .offline, holders := 0, band := 0, queue := [] }

/-- The run record of a resource that comes online (R30). -/
def Run.online (x : Run) : Run := { x with state := .free, holders := 0, band := 0, queue := [] }

/-- A held record revoked with cause `c` (R100, steps 2 to 5). -/
def Record.revoke (c : Cause) (rec : Record) : Record :=
  match rec.standing with
  | .held h => { rec with standing := .revoked h.fence c, unseen := { rec.unseen with revoked := true } }
  | _ => rec

/-- A waiting record lapsed with cause `c` (R71, R110). -/
def Record.lapse (c : Cause) (rec : Record) : Record :=
  match rec.standing with
  | .waiting _ => { rec with standing := .lapsed c, unseen := { rec.unseen with lapsed := true } }
  | _ => rec

/-- Every live record on `r` ended with cause OFFLINE and `r` taken OFFLINE (R112; R33 steps 2 to 4). The
band rule after each removal could only lower the band, which ends at 0 (R99). -/
def Engine.takeDown (e : Engine) (r : ResourceId) : Engine :=
  let e' := e.mapRecords fun _ rec => if rec.resource = r then (rec.revoke .offline).lapse .offline else rec
  e'.setRun r (e'.run r).offline

/-- FENCE_SPENT set; the number it carries is kept if it was set already (R33 step 5). -/
def Faults.raiseFenceSpent (f : Faults) (r : ResourceId) : Faults :=
  { f with fenceSpent := some (f.fenceSpent.getD r) }

/-- `r` is exhausted (R33). -/
def Engine.exhaust (e : Engine) (r : ResourceId) : Engine :=
  let e' := e.takeDown r
  { e'.setRun r { e'.run r with spent := true } with faults := e.faults.raiseFenceSpent r }

/-- The fence counter of `r` cannot be raised (R33, R34). -/
def Engine.fenceFull (e : Engine) (r : ResourceId) : Bool := decide (Config.fenceMax ≤ (e.run r).fence)

/-- The head record of the queue of `r`: its slot and the record (R44). -/
def Engine.head (e : Engine) (r : ResourceId) : Option (SlotId × Record) :=
  match (e.run r).queue with
  | [] => none
  | k :: _ =>
    match e.record k with
    | some rec => if rec.isWaiting then some (k, rec) else none
    | none => none

/-- The record a grant from the queue makes (R58 steps 3 to 5). -/
def Record.grant (h : Held) (rec : Record) : Record :=
  { rec with standing := .held h
             unseen := { rec.unseen with granted := true, warned := rec.unseen.warned || h.state == .warned } }

/-- The head in slot `k` granted in place, or `r` exhausted where its fence counter is full (R58, R33). -/
def Engine.grantHead (e : Engine) (r : ResourceId) (k : SlotId) (rec : Record) : Engine :=
  if e.fenceFull r then e.exhaust r
  else
    let e1 := e.leaveQueue r k
    let h := grantedHeld (e1.defn r).lead (e1.ceiling r) rec.asked ((e1.run r).fence + 1)
    (e1.joinHolders r rec.mode).putRecord k (rec.grant h)

/-- R57, at most `fuel` passes. -/
def Engine.admitPasses : Nat → Engine → ResourceId → Engine
  | 0, e, _ => e
  | fuel + 1, e, r =>
    match (e.run r).state, e.head r with
    | .offline, _ => e
    | .quarantine _, _ => e
    | .exclusive, _ => e
    | .draining, some (k, rec) =>
      match rec.mode with
      | .exclusive => if 0 < (e.run r).holders then e else e.grantHead r k rec
      | .shared => Engine.admitPasses fuel (e.setState r (if 0 < (e.run r).holders then .shared else .free)) r
    | .draining, none => Engine.admitPasses fuel (e.setState r (if 0 < (e.run r).holders then .shared else .free)) r
    | .free, none => e
    | .shared, none => e
    | .free, some (k, rec) =>
      match rec.mode with
      | .exclusive => e.grantHead r k rec
      | .shared => if (e.run r).holders < (e.defn r).capacity then Engine.admitPasses fuel (e.grantHead r k rec) r else e
    | .shared, some (k, rec) =>
      match rec.mode with
      | .exclusive => e.setState r .draining
      | .shared => if (e.run r).holders < (e.defn r).capacity then Engine.admitPasses fuel (e.grantHead r k rec) r else e

/-- Admission for `r` (R57). Each pass grants a waiter, or ends DRAINING, or is the last, so the depth and
two more passes suffice. -/
def Engine.admission (e : Engine) (r : ResourceId) : Engine := Engine.admitPasses ((e.run r).queue.length + 2) e r

/-- Admission for each resource that passes `p`, in order of resource number. -/
def Engine.admissionWhere (e : Engine) (p : ResourceId → Bool) : Engine :=
  ((List.finRange 32).filter p).foldl Engine.admission e

end Sys2Proof.Machine
end

