-- ==== Sys2Proof/Machine/Revocation.lean ====
section
/-! DEFINITION. Revocation, lapses, quarantine and the end of sessions (chapters 6 and 7). -/

namespace Sys2Proof.Machine

/-- The revocation of a record that has left the holder set starts quarantine (R101). -/
def startsQuarantine (m : Mode) (quarantine : Nat) (c : Cause) : Bool :=
  m == .exclusive && quarantine != 0 && c != .offline

/-- The held record in slot `k` revoked with cause `c`, and its resource set as R101 gives, without the
admission that may follow (R100, R101, R104). -/
def Engine.revoke (e : Engine) (k : SlotId) (c : Cause) : Engine :=
  match e.record k with
  | some rec =>
    if rec.isHeld then
      let e1 := (e.putRecord k (rec.revoke c)).depart rec.resource rec.mode
      let q := (e.defn rec.resource).quarantine
      if startsQuarantine rec.mode q c then e1.setState rec.resource (.quarantine q) else e1
    else e
  | none => e

/-- The waiting record in slot `k` lapsed with cause `c`, without the admission that follows (R71, R110). -/
def Engine.lapse (e : Engine) (k : SlotId) (c : Cause) : Engine :=
  match e.record k with
  | some rec => if rec.isWaiting then (e.leaveQueue rec.resource k).putRecord k (rec.lapse c) else e
  | none => e

/-- The record in slot `k` freed at a voluntary end of its session (R122 step 1). -/
def Engine.endRecord (n : Client) (e : Engine) (k : SlotId) : Engine :=
  match e.record k with
  | some rec =>
    if rec.client = n then
      if rec.isHeld then (e.depart rec.resource rec.mode).freeSlot k
      else if rec.isWaiting then (e.leaveQueue rec.resource k).freeSlot k
      else e.freeSlot k
    else e
  | none => e

/-- The record in slot `k` ended at the BAR of its client (R124 step 1, R102). -/
def Engine.barRecord (n : Client) (e : Engine) (k : SlotId) : Engine :=
  match e.record k with
  | some rec =>
    if rec.client = n then
      if rec.isHeld then (e.revoke k .barred).freeSlot k
      else if rec.isWaiting then (e.leaveQueue rec.resource k).freeSlot k
      else e.freeSlot k
    else e
  | none => e

/-- Client `n` owns a live record that names `r` (R52). -/
def Record.liveOf (n : Client) (r : ResourceId) (rec : Record) : Bool :=
  decide (rec.client = n) && decide (rec.resource = r) && rec.isLive

/-- Resources on which the end of `n`'s session frees a held or WAITING record (R122 step 2). -/
def Engine.claims (e : Engine) (n : Client) (r : ResourceId) : Bool := (e.firstWhere (Record.liveOf n r)).isSome

/-- R122, steps 1 and 2. -/
def Engine.endSession (e : Engine) (n : Client) : Engine :=
  ((List.finRange 64).foldl (Engine.endRecord n) e).admissionWhere (e.claims n)

/-- R124, steps 1 and 2. -/
def Engine.barSession (e : Engine) (n : Client) : Engine :=
  ((List.finRange 64).foldl (Engine.barRecord n) e).admissionWhere (e.claims n)

/-- The session state of client `n` set (R117). -/
def Engine.setSessionState (e : Engine) (n : Client) (st : SessionState) : Engine :=
  e.setSession n { e.session n with state := st }

/-- The epoch that follows `x` (R121). -/
def nextEpoch (x : Nat) : Nat := if x < 255 then x + 1 else 1

/-- A voluntary session end (R122): records, admissions, and the heartbeat state of the client. -/
def State.endSession (s : State) (n : Client) : State :=
  (s.setEngine (s.engine.endSession n)).setHeartbeat n .cleared

/-- An OPEN's session (R120, R121): the epoch advances and the heartbeat state is cleared. -/
def State.startSession (s : State) (n : Client) : State :=
  let x := s.engine.session n
  (s.setEngine (s.engine.setSession n { x with state := .opened, epoch := nextEpoch x.epoch })).setHeartbeat n .cleared

end Sys2Proof.Machine
end

