-- ==== Sys2Proof/Machine/Arbiter.lean ====
section
/-! DEFINITION. The engine arbiter, the part-state gating, the session checks and the taking of a request
(chapters 9 and 10). -/

namespace Sys2Proof.Machine

/-! ## What ARB hands next (R159 to R161) -/

/-- The row that a queued client request of this kind stands for. -/
def ClientKind.command (k : ClientKind) (n : Client) : Instr :=
  match k with
  | .openSession => .openSession n
  | .closeSession => .closeSession n
  | .status => .status n
  | .setHeartbeat => .setHeartbeat n
  | .acquire => .acquire n
  | .renew => .renew n
  | .release => .release n
  | .cancel => .cancel n
  | .scan => .scan n
  | .ack => .ack n
  | .queryLease => .queryLease (.client n)
  | .queryResource => .queryResource (.client n)
  | .checkFence => .checkFence (.client n)

/-- The row that the queued management request of this kind stands for. -/
def MgmtKind.command : MgmtKind → Instr
  | .queryLease => .queryLease .management
  | .queryResource => .queryResource .management
  | .checkFence => .checkFence .management
  | .defineResource => .defineResource
  | .readDefinition => .readDefinition
  | .setProfile => .setProfile
  | .readProfile => .readProfile
  | .setQuota => .setQuota
  | .setDivider => .setDivider
  | .bar => .bar
  | .unbar => .unbar
  | .forceRevoke => .forceRevoke
  | .lift => .lift
  | .takeOffline => .takeOffline
  | .bringOnline => .bringOnline
  | .enterMaintenance => .enterMaintenance
  | .leaveMaintenance => .leaveMaintenance
  | .enterSafe => .enterSafe
  | .serviceReset => .serviceReset
  | .partStatus => .partStatus
  | .querySession => .querySession
  | .capture => .capture
  | .writeStaging => .writeStaging
  | .readStaging => .readStaging
  | .burn => .burn
  | .bankStatus => .bankStatus

/-- The item waiting at client position `n`: its renew-all before its request (R161). -/
def State.clientItem (s : State) (n : Client) : Option Instr :=
  if (s.heartbeat n).renewalPending then some (.renewAll n)
  else
    match (s.port n).standing with
    | .queued q => some (q.kind.command n)
    | _ => none

/-- The positions in the order a client turn considers them (R161). -/
def turnOrder (pointer : Client) : List Client := (List.finRange 6).map fun i => pointer + i

/-- The item of a client turn (R161). -/
def State.clientTurn (s : State) : Option Instr := (turnOrder s.pointer).findSome? s.clientItem

/-- The item ARB hands next, as the row that takes it (R160): an untaken tick, then the management request,
then a client turn. In STARTING it hands nothing (R159). -/
def State.handed (s : State) : Option Instr :=
  if s.part = .starting then none
  else if s.part = .service ∧ 0 < s.untaken then some .tickTaken
  else
    match s.mport.standing with
    | .queued q => some q.kind.command
    | _ => s.clientTurn

/-! ## Gating and session checks (R119, R156, R168) -/

/-- The part-state gating of client requests: the refusal, if any (R156). -/
def ClientKind.gate (k : ClientKind) (p : PartState) : Option Status :=
  match p with
  | .maintenance =>
    match k with
    | .status | .closeSession | .queryLease | .queryResource | .checkFence | .scan | .ack => none
    | .openSession | .acquire | .renew | .release | .cancel | .setHeartbeat => some .maintenance
  | .safe => if k = .status then none else some .safe
  | .service => none
  | .starting => none

/-- Every client request but OPEN and STATUS passes the session checks (R119). -/
def ClientKind.sessionChecked (k : ClientKind) : Bool := k != .openSession && k != .status

/-- The session checks (R119). -/
def Session.check (x : Session) (epoch : Byte) : Option Status :=
  match x.state with
  | .closed => some .notOpen
  | .barred => some .barred
  | .opened => if epoch.toNat = x.epoch then none else some .staleSession

/-- The refusal a client request meets before its own rule: gating, then session and epoch (R157). -/
def State.clientRefusal (s : State) (n : Client) (q : Request ClientKind) : Option Status :=
  match q.kind.gate s.part with
  | some st => some st
  | none => if q.kind.sessionChecked then (s.engine.session n).check q.epoch else none

/-- The part states in which a management request is taken (R168). -/
def MgmtKind.available (k : MgmtKind) (p : PartState) : Bool :=
  match k with
  | .defineResource | .setProfile | .setQuota | .setDivider | .leaveMaintenance => p == .maintenance
  | .enterMaintenance => p == .service
  | .bar | .unbar | .forceRevoke | .lift | .takeOffline | .bringOnline | .enterSafe => p == .service || p == .maintenance
  | .readDefinition | .readProfile | .serviceReset | .partStatus | .querySession | .queryLease | .queryResource
  | .checkFence | .capture | .writeStaging | .readStaging | .burn | .bankStatus => p != .starting

/-- The status of a management request that is not available (R168). -/
def unavailableStatus : PartState → Status
  | .maintenance => .maintenance
  | .safe => .safe
  | .service => .wrongState
  | .starting => .wrongState

/-! ## Taking a request (R155, R168) -/

/-- The pointer moved to the position after the one served (R161). -/
def State.serve (s : State) (n : Client) : State := { s with pointer := n + 1 }

/-- A response placed in client port `n` (R155). -/
def State.placeClient (s : State) (n : Client) (k : ClientKind) (a : Answer) : State :=
  s.setPort n ((s.port n).place k.code a)

/-- A response placed in MPORT (R168). -/
def State.placeMgmt (s : State) (k : MgmtKind) (a : Answer) : State := s.setMport (s.mport.place k.code a)

/-- What taking client request `q` of port `n` does, its rule being `rule` (R155, R157). -/
def State.answerClient (s : State) (n : Client) (q : Request ClientKind)
    (rule : List Byte → State → State × Answer) : State :=
  let s1 := s.serve n
  let out := match s1.clientRefusal n q with
    | some st => (s1, Answer.bare st)
    | none => rule q.args s1
  (out.1.placeClient n q.kind out.2).settle

/-- LENG takes the request of kind `k` of port `n` if ARB hands it next (R155). -/
def State.takeClient (s : State) (k : ClientKind) (n : Client) (rule : List Byte → State → State × Answer) : State :=
  if s.handed = some (k.command n) then
    match (s.port n).standing with
    | .queued q => s.answerClient n q rule
    | _ => s
  else s

/-- What taking management request `q` does, its rule being `rule` (R168). -/
def State.answerMgmt (s : State) (q : Request MgmtKind) (rule : List Byte → State → State × Answer) : State :=
  let out := if q.kind.available s.part then rule q.args s else (s, Answer.bare (unavailableStatus s.part))
  (out.1.placeMgmt q.kind out.2).settle

/-- The block its kind calls for takes MPORT's request of kind `k` if ARB hands it next (R168). -/
def State.takeMgmt (s : State) (k : MgmtKind) (rule : List Byte → State → State × Answer) : State :=
  if s.handed = some k.command then
    match s.mport.standing with
    | .queued q => s.answerMgmt q rule
    | _ => s
  else s

/-- A request that names a handle: STALE, then NOT_HOLDER for a client, then its own rule (R20). -/
def State.withHandle (s : State) (owner : Option Client) (word : Nat)
    (rule : SlotId → Record → State × Answer) : State × Answer :=
  match s.engine.current (handleSlot word) (handleGeneration word) with
  | none => (s, .bare .stale)
  | some rec =>
    match owner with
    | none => rule (handleSlot word) rec
    | some n => if rec.client = n then rule (handleSlot word) rec else (s, .bare .notHolder)

/-- A request that names a resource: NO_RESOURCE above 31, then its own rule. -/
def State.withResource (s : State) (number : Nat) (rule : ResourceId → State × Answer) : State × Answer :=
  if h : number < 32 then rule ⟨number, h⟩ else (s, .bare .noResource)

/-- A request that names a client: BAD_ARG above 5, then its own rule. -/
def State.withClient (s : State) (number : Nat) (rule : Client → State × Answer) : State × Answer :=
  if h : number < 6 then rule ⟨number, h⟩ else (s, .bare .badArg)

end Sys2Proof.Machine
end

