-- ==== Sys2Proof/Machine/Configuration.lean ====
section
/-! DEFINITION. Configuration and resources: DEFINE_RESOURCE, READ_DEFINITION, SET_PROFILE, READ_PROFILE,
SET_DIVIDER, LIFT, TAKE_OFFLINE and BRING_ONLINE (chapters 2, 4, 5, 6 and 10). -/

namespace Sys2Proof.Machine

/-- DEFINE RESOURCE's own rule (R174, R26). -/
def defineResourceRule (args : List Byte) (s : State) : State × Answer :=
  match definitionOf (argByte args 0) fun i => argByte args (1 + i) with
  | none => (s, .bare .badArg)
  | some d =>
    s.withResource (argByte args 0) fun r =>
      if (s.engine.run r).state = .offline then
        (s.setEngine (s.engine.setDefn r d), { status := .ok, content := d.bytes })
      else (s, .bare .wrongState)

/-- DEFINE_RESOURCE (R174). -/
def execDefineResource (s : State) : Host.Outcome State Fault Refusal :=
  .next (s.takeMgmt .defineResource defineResourceRule)

/-- READ DEFINITION's own rule (R174). -/
def readDefinitionRule (args : List Byte) (s : State) : State × Answer :=
  s.withResource (argByte args 0) fun r => (s, { status := .ok, content := (s.engine.defn r).bytes })

/-- READ_DEFINITION (R174). -/
def execReadDefinition (s : State) : Host.Outcome State Fault Refusal :=
  .next (s.takeMgmt .readDefinition readDefinitionRule)

/-- The band rule for every resource that names profile `p` and is not OFFLINE, in order (R96). -/
def Engine.rerunBands (e : Engine) (p : Fin 4) : Engine :=
  ((List.finRange 32).filter fun r => decide ((e.defn r).profile = p ∧ (e.run r).state ≠ .offline)).foldl
    Engine.bandRule e

/-- SET PROFILE's own rule: the values stand in the staging buffer (R87, R96, R191). -/
def setProfileRule (args : List Byte) (s : State) : State × Answer :=
  if h : argByte args 0 < 4 then
    let p : Fin 4 := ⟨argByte args 0, h⟩
    let x := profileOf (s.images.staging.profileByte p)
    if ¬ x.inRange then (s, .bare .badArg)
    else if ¬ x.ordered then (s, .bare .badProfile)
    else (s.setEngine ((s.engine.setProfile p x).rerunBands p), .bare .ok)
  else (s, .bare .badArg)

/-- SET_PROFILE (R96). -/
def execSetProfile (s : State) : Host.Outcome State Fault Refusal := .next (s.takeMgmt .setProfile setProfileRule)

/-- READ PROFILE's own rule (R175). -/
def readProfileRule (args : List Byte) (s : State) : State × Answer :=
  if h : argByte args 0 < 4 then
    (s, { status := .ok, content := (Table.get s.engine.profiles ⟨argByte args 0, h⟩).bytes })
  else (s, .bare .badArg)

/-- READ_PROFILE (R175). -/
def execReadProfile (s : State) : Host.Outcome State Fault Refusal := .next (s.takeMgmt .readProfile readProfileRule)

/-- SET DIVIDER's own rule (R175, R66). -/
def setDividerRule (args : List Byte) (s : State) : State × Answer :=
  let v := argWord args 0
  if v < Config.dividerMin then (s, .bare .badArg)
  else ({ s with divider := v }, { status := .ok, content := bytes2 v })

/-- SET_DIVIDER (R66). -/
def execSetDivider (s : State) : Host.Outcome State Fault Refusal := .next (s.takeMgmt .setDivider setDividerRule)

/-- The resource is in QUARANTINE. -/
def ResourceState.resting : ResourceState → Bool
  | .quarantine _ => true
  | _ => false

/-- LIFT's own rule (R107). -/
def liftRule (args : List Byte) (s : State) : State × Answer :=
  s.withResource (argByte args 0) fun r =>
    if (s.engine.run r).state.resting then
      let e := (s.engine.setState r .free).admission r
      (s.setEngine e, { status := .ok, content := [(e.run r).state.code] })
    else (s, .bare .wrongState)

/-- LIFT (R107). -/
def execLift (s : State) : Host.Outcome State Fault Refusal := .next (s.takeMgmt .lift liftRule)

/-- How many held records name `r`. -/
def Engine.heldOn (e : Engine) (r : ResourceId) : Nat := e.countWhere fun rec => decide (rec.resource = r) && rec.isHeld

/-- How many WAITING records name `r`. -/
def Engine.waitingOn (e : Engine) (r : ResourceId) : Nat :=
  e.countWhere fun rec => decide (rec.resource = r) && rec.isWaiting

/-- TAKE OFFLINE's own rule (R176, R112). With no live record, forced or not, only the run record changes. -/
def takeOfflineRule (args : List Byte) (s : State) : State × Answer :=
  match yesNoOf (argByte args 1) with
  | none => (s, .bare .badArg)
  | some force =>
    s.withResource (argByte args 0) fun r =>
      let e := s.engine
      let counts := [byte (e.heldOn r), byte (e.waitingOn r)]
      if (e.run r).state = .offline then (s, .bare .wrongState)
      else if ¬ force ∧ e.heldOn r + e.waitingOn r ≠ 0 then (s, { status := .inUse, content := counts })
      else (s.setEngine (e.takeDown r), { status := .ok, content := counts })

/-- TAKE_OFFLINE (R176). -/
def execTakeOffline (s : State) : Host.Outcome State Fault Refusal := .next (s.takeMgmt .takeOffline takeOfflineRule)

/-- BRING ONLINE's own rule (R177, R30). -/
def bringOnlineRule (args : List Byte) (s : State) : State × Answer :=
  s.withResource (argByte args 0) fun r =>
    let e := s.engine
    if (e.run r).state ≠ .offline then (s, .bare .wrongState)
    else if ¬ (e.defn r).defined then (s, .bare .offline)
    else if (e.run r).spent then (s, .bare .fenceSpent)
    else (s.setEngine ((e.setRun r (e.run r).online).admission r), .bare .ok)

/-- BRING_ONLINE (R177). -/
def execBringOnline (s : State) : Host.Outcome State Fault Refusal := .next (s.takeMgmt .bringOnline bringOnlineRule)

end Sys2Proof.Machine
end

