-- ==== Sys2Proof/Machine/Leases.lean ====
section
/-! DEFINITION. Leases and waits: ACQUIRE, RENEW, RELEASE, CANCEL and FORCE_REVOKE (chapters 3, 4 and 6). -/

namespace Sys2Proof.Machine

/-! ## ACQUIRE -/

/-- The arguments of an ACQUIRE that pass R49. -/
structure AcquireArgs where
  resource : Nat
  mode : Mode
  term : Nat
  patience : Nat
  lineRenewable : Bool
  tag : Option Nat
  deriving DecidableEq, Repr

/-- The argument checks of R49 over the layout of 12.2; the tag is carried at length 9. -/
def acquireArgs (args : List Byte) : Option AcquireArgs :=
  match modeOf (argByte args 1), yesNoOf (argByte args 6) with
  | some m, some l =>
    if argWord args 2 = 0 then none
    else some { resource := argByte args 0, mode := m, term := argWord args 2, patience := argWord args 4,
                lineRenewable := l, tag := if args.length = 9 then some (argWord args 7) else none }
  | _, _ => none

/-- The resource is grantable at once for a mode (R50). -/
def Engine.grantable (e : Engine) (r : ResourceId) (m : Mode) : Bool :=
  let x := e.run r
  x.queue.isEmpty &&
    match m with
    | .exclusive => decide (x.state = .free)
    | .shared => decide ((x.state = .free ∨ x.state = .shared) ∧ x.holders < (e.defn r).capacity)

/-- Steps 2 to 7 of R51, in order. -/
def Engine.acquireRefusal (e : Engine) (n : Client) (r : ResourceId) (a : AcquireArgs) : Option Answer :=
  let d := e.defn r
  let x := e.run r
  if ¬ d.defined ∨ x.state = .offline then some (.bare .offline)
  else if a.mode = .shared ∧ d.kind = .line then some (.bare .mode)
  else
    match e.firstWhere (Record.liveOf n r) with
    | some k =>
      some { status := .held
             content := handleBytes k (e.slot k).generation ++ ((e.record k).map fun rec => rec.standing.code).toList }
    | none =>
      if (e.session n).quota ≤ (e.session n).count then some (.bare .quota)
      else if a.patience = 0 ∧ ¬ e.grantable r a.mode then some (.bare .busyResource)
      else if ¬ e.grantable r a.mode ∧ d.queueLimit ≤ x.queue.length then some (.bare .queueFull)
      else none

/-- The record an ACQUIRE creates, in its initial standing (R54, R55). -/
def AcquireArgs.record (a : AcquireArgs) (n : Client) (r : ResourceId) (st : Standing) : Record :=
  { client := n, resource := r, mode := a.mode, asked := a.term, tag := a.tag, lineRenewable := a.lineRenewable,
    unseen := .empty, standing := st }

/-- The held fields of an immediate grant: the ceiling is that of band 0 (R54). -/
def Engine.immediateHeld (e : Engine) (r : ResourceId) (a : AcquireArgs) : Held :=
  grantedHeld (e.defn r).lead ((e.profileOf r).ceiling 0) a.term ((e.run r).fence + 1)

/-- The immediate grant in slot `k` (R54, R42). -/
def Engine.grantAtOnce (e : Engine) (n : Client) (r : ResourceId) (a : AcquireArgs) (k : SlotId) : Engine :=
  (e.joinHolders r a.mode).create k (a.record n r (.held (e.immediateHeld r a)))

/-- The WAITING record created in slot `k` and put at the tail; then the band rule, with its squeeze; then
DRAINING where the record is the EXCLUSIVE head of a SHARED resource (R55, R95). -/
def Engine.join (e : Engine) (n : Client) (r : ResourceId) (a : AcquireArgs) (k : SlotId) : Engine :=
  let e1 := e.create k (a.record n r (.waiting (patienceOf a.patience)))
  let e2 := (e1.setQueue r ((e1.run r).queue ++ [k])).bandRule r
  if (e.run r).queue = [] ∧ (e.run r).state = .shared ∧ a.mode = .exclusive then e2.setState r .draining else e2

/-- ACQUIRE's own rule (R48 to R55, R34). -/
def acquireRule (n : Client) (args : List Byte) (s : State) : State × Answer :=
  match acquireArgs args with
  | none => (s, .bare .badArg)
  | some a =>
    s.withResource a.resource fun r =>
      let e := s.engine
      match e.acquireRefusal n r a with
      | some refusal => (s, refusal)
      | none =>
        match e.firstFree with
        | none => (s, .bare .tableFull)
        | some k =>
          let handle := handleBytes k (e.slot k).generation
          if e.grantable r a.mode then
            if e.fenceFull r then (s.setEngine (e.exhaust r), .bare .fenceSpent)
            else
              let h := e.immediateHeld r a
              (s.setEngine (e.grantAtOnce n r a k),
                { status := .granted
                  content := handle ++ [(Standing.held h).code] ++ bytes2 h.remaining ++ bytes4 h.fence })
          else
            (s.setEngine (e.join n r a k),
              { status := .queued
                content := handle ++ [byte ((e.run r).queue.length + 1)] ++ (patienceOf a.patience).bytes })

/-- ACQUIRE (R48). -/
def execAcquire (n : Client) (s : State) : Host.Outcome State Fault Refusal :=
  .next (s.takeClient .acquire n (acquireRule n))

/-! ## RENEW -/

/-- The term a RENEW carries, present at length 4 (12.2). -/
def renewTerm (args : List Byte) : Option Nat := if args.length = 4 then some (argWord args 2) else none

/-- The content of a RENEW answered OK or CONTENDED (R80). -/
def heldContent (h : Held) : List Byte := (Standing.held h).code :: bytes2 h.remaining ++ [byte h.renewals]

/-- A tombstone's answer: its status and cause (R19). -/
def tombstoneAnswer (st : Status) (c : Cause) : Answer := { status := st, content := [c.code] }

/-- RENEW's own rule (R77 to R80). -/
def renewRule (n : Client) (args : List Byte) (s : State) : State × Answer :=
  if renewTerm args = some 0 then (s, .bare .badArg)
  else
    s.withHandle (some n) (argWord args 0) fun k rec =>
      match rec.standing with
      | .held h =>
        if s.engine.contended rec.resource h then (s, { status := .contended, content := heldContent h })
        else
          let out := s.engine.renewed rec h (renewTerm args)
          (s.setEngine (s.engine.putRecord k out.1), { status := .ok, content := heldContent out.2 })
      | .waiting _ => (s, .bare .wrongState)
      | .revoked _ c => (s, tombstoneAnswer .revoked c)
      | .lapsed c => (s, tombstoneAnswer .lapsed c)

/-- RENEW (R77). -/
def execRenew (n : Client) (s : State) : Host.Outcome State Fault Refusal :=
  .next (s.takeClient .renew n (renewRule n))

/-! ## RELEASE and CANCEL -/

/-- RELEASE's own rule (R81, R82). -/
def releaseRule (n : Client) (args : List Byte) (s : State) : State × Answer :=
  s.withHandle (some n) (argWord args 0) fun k rec =>
    match rec.standing with
    | .held _ =>
      (s.setEngine (((s.engine.depart rec.resource rec.mode).freeSlot k).admission rec.resource), .bare .ok)
    | .waiting _ => (s, .bare .wrongState)
    | .revoked _ c => (s.setEngine (s.engine.freeSlot k), tombstoneAnswer .revoked c)
    | .lapsed _ => (s, .bare .wrongState)

/-- RELEASE (R81). -/
def execRelease (n : Client) (s : State) : Host.Outcome State Fault Refusal :=
  .next (s.takeClient .release n (releaseRule n))

/-- CANCEL's own rule (R61, R62). -/
def cancelRule (n : Client) (args : List Byte) (s : State) : State × Answer :=
  s.withHandle (some n) (argWord args 0) fun k rec =>
    match rec.standing with
    | .waiting _ =>
      (s.setEngine (((s.engine.leaveQueue rec.resource k).freeSlot k).admission rec.resource), .bare .ok)
    | .held _ => (s, .bare .wrongState)
    | .revoked _ _ => (s, .bare .wrongState)
    | .lapsed c => (s.setEngine (s.engine.freeSlot k), tombstoneAnswer .lapsed c)

/-- CANCEL (R61). -/
def execCancel (n : Client) (s : State) : Host.Outcome State Fault Refusal :=
  .next (s.takeClient .cancel n (cancelRule n))

/-! ## FORCE REVOKE -/

/-- FORCE REVOKE's own rule (R109, R110). -/
def forceRevokeRule (args : List Byte) (s : State) : State × Answer :=
  s.withHandle none (argWord args 0) fun k rec =>
    match rec.standing with
    | .held h =>
      (s.setEngine ((s.engine.revoke k .forced).admission rec.resource),
        { status := .ok, content := (Standing.revoked h.fence .forced).code :: bytes4 h.fence })
    | .waiting _ =>
      (s.setEngine ((s.engine.lapse k .forced).admission rec.resource),
        { status := .ok, content := [(Standing.lapsed .forced).code] })
    | .revoked _ _ => (s, .bare .wrongState)
    | .lapsed _ => (s, .bare .wrongState)

/-- FORCE_REVOKE (R109). -/
def execForceRevoke (s : State) : Host.Outcome State Fault Refusal := .next (s.takeMgmt .forceRevoke forceRevokeRule)

end Sys2Proof.Machine
end

