-- ==== Sys2Proof/Machine/Link.lean ====
section
/-! DEFINITION. The two buses: REQUEST_TRANSACTION, FETCH, MANAGEMENT_WRITE and MANAGEMENT_READ
(chapters 9 and 10). -/

namespace Sys2Proof.Machine

/-- LINK serves this select: no other was being served, no reset cut it, and the reset pin is released (R147, R151). -/
def State.serves (s : State) (select : Select) : Bool := select == .served && !s.resetPin

/-- LINK serves a fetch of `clocked` whole bytes, header included, from port `n` (R154). -/
def State.serveFetch (s : State) (n : Client) (clocked : Nat) : State :=
  if clocked = 0 then s
  else
    { s.setPort n ((s.port n).afterFetch (clocked - 1)) with
      clientData := driven clocked (Config.filler :: (s.port n).fetchBytes) }

/-- LINK serves a request transaction of the whole bytes `bytes` at port `n` (R148 to R152). -/
def State.serveRequest (s : State) (n : Client) (bytes : List Byte) : State :=
  match bytes with
  | [] => s
  | header :: _ =>
    { s.setPort n ((s.port n).deliver header (checkClientFrame bytes)) with
      clientData := driven bytes.length [] }

/-- REQUEST_TRANSACTION (R147 to R153). Stray bits are discarded; a transaction without a whole byte frames
nothing; one whose header is the FETCH code is a fetch (R148). An unserved select drives nothing, and neither does one
a reset cut, which LINK ignores until it ends (R151). -/
def execRequestTransaction (n : Client) (select : Select) (bytes : List Byte) (_stray : Fin 8) (s : State) :
    Host.Outcome State Fault Refusal :=
  .next (if s.serves select then
    (if bytes.head? = some Config.fetchHeader then s.serveFetch n bytes.length else s.serveRequest n bytes)
  else s)

/-- FETCH (R154). -/
def execFetch (n : Client) (select : Select) (clocked : Nat) (_stray : Fin 8) (s : State) :
    Host.Outcome State Fault Refusal :=
  .next (if s.serves select then s.serveFetch n clocked else s)

/-- MPORT acknowledges this I2C address (R163). -/
def State.acknowledges (s : State) (address : BitVec 7) : Bool :=
  !s.resetPin && address.toNat == Config.i2cBase + s.addressStraps.val

/-- MPORT after a write of `bytes` to `address` that no reset cut (R163, R164). -/
def State.mportWrite (s : State) (address : BitVec 7) (bytes : List Byte) : State :=
  if s.acknowledges address then
    match bytes with
    | [] => { s with mgmtAck := true, mgmtData := [] }
    | header :: _ =>
      { s.setMport (s.mport.deliver header (checkMgmtFrame bytes)) with mgmtAck := true, mgmtData := [] }
  else { s with mgmtAck := false, mgmtData := [] }

/-- MPORT after a read of `clocked` whole bytes from `address` that no reset cut (R163, R165). -/
def State.mportRead (s : State) (address : BitVec 7) (clocked : Nat) : State :=
  if s.acknowledges address then
    { s.setMport (s.mport.afterFetch clocked) with
      mgmtAck := true, mgmtData := driven clocked s.mport.fetchBytes }
  else { s with mgmtAck := false, mgmtData := [] }

/-- MANAGEMENT_WRITE (R163, R164). One that a reset cut is ignored until its stop (R166). -/
def execManagementWrite (start : BusStart) (bytes : List Byte) (s : State) : Host.Outcome State Fault Refusal :=
  .next (if start.cut then s else s.mportWrite start.address bytes)

/-- MANAGEMENT_READ (R163, R165). One that a reset cut is ignored until its stop (R166). -/
def execManagementRead (start : BusStart) (clocked : Nat) (s : State) : Host.Outcome State Fault Refusal :=
  .next (if start.cut then s else s.mportRead start.address clocked)

end Sys2Proof.Machine
end

