-- ==== Sys2Proof/Machine/Images.lean ====
section
/-! DEFINITION. The image store: CAPTURE, WRITE_STAGING, READ_STAGING, BURN, BANK_STATUS and BURN_END
(chapter 11). -/

namespace Sys2Proof.Machine

def ImageStore.bank (x : ImageStore) : BankId → Bank
  | .a => x.bankA
  | .b => x.bankB

def ImageStore.setBank (x : ImageStore) (i : BankId) (b : Bank) : ImageStore :=
  match i with
  | .a => { x with bankA := b }
  | .b => { x with bankB := b }

/-- A bank's state from its marks and content (R179). -/
def Bank.derive (b : Bank) : BankState :=
  if ¬ b.started ∧ ¬ b.finished then .blank
  else if b.started ∧ b.finished ∧ b.content.checkGood ∧ b.content.tagPresent then .written
  else .spoilt

/-- The bank with its state derived again. -/
def Bank.derived (b : Bank) : Bank := { b with state := b.derive }

/-! ## Requests -/

/-- CAPTURE's own rule (R182). -/
def captureRule (_args : List Byte) (s : State) : State × Answer :=
  if s.images.burning.isSome then (s, .bare .busy)
  else (s.setImages { s.images with staging := imageOf s.engine s.divider }, .bare .ok)

/-- CAPTURE (R182). -/
def execCapture (s : State) : Host.Outcome State Fault Refusal := .next (s.takeMgmt .capture captureRule)

/-- WRITE STAGING's own rule (R181). -/
def writeStagingRule (args : List Byte) (s : State) : State × Answer :=
  let offset := argWord args 0
  let data := args.drop 2
  if Config.imageBytes ≤ offset ∨ Config.imageBytes < offset + data.length then (s, .bare .badArg)
  else if s.images.burning.isSome then (s, .bare .busy)
  else (s.setImages { s.images with staging := s.images.staging.writeAll offset data }, .bare .ok)

/-- WRITE_STAGING (R181). -/
def execWriteStaging (s : State) : Host.Outcome State Fault Refusal := .next (s.takeMgmt .writeStaging writeStagingRule)

/-- READ STAGING's own rule (R181). -/
def readStagingRule (args : List Byte) (s : State) : State × Answer :=
  let offset := argWord args 0
  let count := argByte args 2
  if count = 0 ∨ 24 < count ∨ Config.imageBytes < offset + count then (s, .bare .badArg)
  else (s, { status := .ok, content := s.images.staging.readAll offset count })

/-- READ_STAGING (R181). -/
def execReadStaging (s : State) : Host.Outcome State Fault Refusal := .next (s.takeMgmt .readStaging readStagingRule)

/-- The start of a burn of bank `i` (R183): the check word goes into the staging buffer, the bank's started
mark is set and its state derived. DESIGN CHOICE (log 23, unsafe): R183 does not say how much of the content is copied
while the burn is in flight; here the bank keeps its old content whole until the burn ends or is cut. -/
def ImageStore.startBurn (x : ImageStore) (i : BankId) : ImageStore :=
  let y := { x with staging := x.staging.writeAll imageCheck (bytes2 x.staging.checkWord), burning := some i }
  y.setBank i ({ x.bank i with started := true }.derived)

/-- BURN's own rule (R183). -/
def burnRule (args : List Byte) (s : State) : State × Answer :=
  match bankOf (argByte args 0) with
  | none => (s, .bare .badArg)
  | some i =>
    if ¬ s.images.staging.tagPresent then (s, .bare .badArg)
    else if (s.images.bank i).state ≠ .blank then (s, .bare .bankUsed)
    else if s.images.burning.isSome then (s, .bare .busy)
    else (s.setImages (s.images.startBurn i), .bare .started)

/-- BURN (R183). -/
def execBurn (s : State) : Host.Outcome State Fault Refusal := .next (s.takeMgmt .burn burnRule)

/-- A bank's state as BANK STATUS reports it (R179, 12.4). -/
def ImageStore.reported (x : ImageStore) (i : BankId) : Byte :=
  if x.burning = some i then 3 else (x.bank i).state.code

/-- BANK STATUS's own rule (R186). -/
def bankStatusRule (_args : List Byte) (s : State) : State × Answer :=
  let x := s.images
  (s, { status := .ok
        content := [x.reported .a, x.reported .b, yesNo x.burning.isSome, yesNo x.staging.tagPresent, x.source.code] })

/-- BANK_STATUS (R186). -/
def execBankStatus (s : State) : Host.Outcome State Fault Refusal := .next (s.takeMgmt .bankStatus bankStatusRule)

/-! ## The end of a burn, and a burn cut -/

/-- What the bank reads back at the end of a burn: the staging bytes, except where `misread` says otherwise
(R184, log 9). -/
def readBack (staging : Memory) (misread : List (Fin 512 × Byte)) : Memory :=
  misread.foldl (fun m c => m.write c.1.val c.2) staging

/-- The bank at the end of its burn (R184). -/
def Bank.burned (b : Bank) (staging : Memory) (misread : List (Fin 512 × Byte)) : Bank :=
  if readBack staging misread = staging then { b with content := staging, finished := true }.derived
  else { b with content := readBack staging misread, state := .spoilt }

/-- BURN_END (R184). -/
def execBurnEnd (misread : List (Fin 512 × Byte)) (s : State) : Host.Outcome State Fault Refusal :=
  .next (match s.images.burning with
    | none => s
    | some i =>
      let x := s.images
      let t := s.setImages { x.setBank i ((x.bank i).burned x.staging misread) with burning := none }
      if readBack x.staging misread = x.staging then t
      else t.setFaults { t.engine.faults with burnSpoilt := true })

/-- FREE VALUE (log 8). A bank's content after its burn was cut: whatever part of the staging bytes the burn
had written (R185). -/
def cutContent (index : Nat) (old staging : Memory) : Memory :=
  Memory.ofBytes 0 ((List.range Config.imageBytes).map fun a =>
    if Config.cutBurnWrote index a then staging.read a else old.read a)

/-- A burn in flight cut by a reset: its bank is SPOILT (R185). -/
def State.cutBurn (s : State) : State :=
  match s.images.burning with
  | none => s
  | some i =>
    let x := s.images
    let b := { x.bank i with content := cutContent s.freeIndex (x.bank i).content x.staging, state := .spoilt }
    { s.setImages { x.setBank i b with burning := none } with freeIndex := s.freeIndex + 1 }

end Sys2Proof.Machine
end

