-- ==== Sys2Proof/Machine/PartStates.lean ====
section
/-! DEFINITION. Part states, resets and the load: ENTER_MAINTENANCE, LEAVE_MAINTENANCE, ENTER_SAFE,
SERVICE_RESET, RESTART_COMPLETE, PART_STATUS, POWER_ON_RESET, RESET_PIN_ASSERT, RESET_PIN_RELEASE, LOAD_END
(chapters 10 and 11). -/

namespace Sys2Proof.Machine

/-! ## Into and out of SERVICE -/

/-- The part leaves SERVICE: TGEN freezes and its partial period goes, the untaken ticks go, and every
client's previous sample and pending flag go (R65, R68, R129, R130). -/
def State.leaveService (s : State) : State :=
  { s with running := false, elapsed := 0, untaken := 0
           heartbeats := Table.tab fun n => { s.heartbeat n with previous := .invalid, renewalPending := false } }

/-- The part enters SERVICE: TGEN starts a fresh period (R65). -/
def State.enterService (s : State) : State := { s with part := .service, running := true, elapsed := 0 }

/-- ENTER MAINTENANCE's own rule (R169). -/
def enterMaintenanceRule (_args : List Byte) (s : State) : State × Answer :=
  ({ s.leaveService with part := .maintenance }, .bare .ok)

/-- ENTER_MAINTENANCE (R169). -/
def execEnterMaintenance (s : State) : Host.Outcome State Fault Refusal :=
  .next (s.takeMgmt .enterMaintenance enterMaintenanceRule)

/-- LEAVE MAINTENANCE's own rule (R169). -/
def leaveMaintenanceRule (_args : List Byte) (s : State) : State × Answer := (s.enterService, .bare .ok)

/-- LEAVE_MAINTENANCE (R169). -/
def execLeaveMaintenance (s : State) : Host.Outcome State Fault Refusal :=
  .next (s.takeMgmt .leaveMaintenance leaveMaintenanceRule)

/-! ## SAFE -/

/-- A run record at entry to SAFE and at SERVICE RESET: OFFLINE stays OFFLINE, every other becomes FREE
(R170, R31). -/
def Run.emptied (x : Run) : Run := if x.state = .offline then x.offline else x.online

/-- Every session CLOSED, its epoch and quota kept (R133). -/
def Engine.closeAll (e : Engine) : Engine :=
  { e with sessions := Table.tab fun n => { e.session n with state := .closed } }

/-- Every run record changed by `f`. -/
def Engine.mapRuns (e : Engine) (f : ResourceId → Run → Run) : Engine :=
  { e with resources := Table.tab fun r => { Table.get e.resources r with run := f r (e.run r) } }

/-- Every record freed, every session CLOSED and every run record emptied (R170, R171). -/
def Engine.emptied (e : Engine) : Engine := (e.freeAll.closeAll).mapRuns fun _ x => x.emptied

/-- How many sessions are OPEN or BARRED. -/
def Engine.standingSessions (e : Engine) : Nat :=
  (List.finRange 6).countP fun n => (e.session n).state != .closed

/-- ENTER SAFE's own rule (R170). -/
def enterSafeRule (_args : List Byte) (s : State) : State × Answer :=
  ({ (s.leaveService.setEngine s.engine.emptied) with heartbeats := Table.fill 6 .cleared, part := .safe },
    { status := .ok, content := [byte s.engine.usedSlots, byte s.engine.standingSessions] })

/-- ENTER_SAFE (R170). -/
def execEnterSafe (s : State) : Host.Outcome State Fault Refusal := .next (s.takeMgmt .enterSafe enterSafeRule)

/-! ## SERVICE RESET -/

/-- What every kind of reset does to HBS, ARB, TGEN and the client ports (R66, R68, R130, R151, R159). -/
def State.resetBlocks (s : State) : State :=
  { s with heartbeats := Table.fill 6 .cleared, untaken := 0, pointer := 0, running := false, elapsed := 0
           ports := Table.fill 6 .cleared, part := .starting }

/-- BURN_SPOILT set where a SERVICE RESET cuts a burn (R172, R185). -/
def State.markCut (s : State) : State :=
  if s.images.burning.isSome then s.setFaults { s.engine.faults with burnSpoilt := true } else s

/-- The restart of SERVICE RESET, its response already placed in MPORT (R166, R171). -/
def State.restart (s : State) : State :=
  let t := (s.markCut.cutBurn).resetBlocks
  { t.setEngine t.engine.emptied with
    mport := { s.mport with overlap := false, priorDiscarded := false }, restarting := true, load := none }

/-- SERVICE_RESET (R171). It is available in every part state in which ARB hands it (R168). -/
def execServiceReset (s : State) : Host.Outcome State Fault Refusal :=
  .next (if s.handed = some .serviceReset then (s.placeMgmt .serviceReset (.bare .ok)).restart.settle else s)

/-- RESTART_COMPLETE (R167, R171). -/
def execRestartComplete (s : State) : Host.Outcome State Fault Refusal :=
  .next (if s.part = .starting ∧ s.restarting then { s.enterService with restarting := false }.settle else s)

/-! ## The fault summary -/

/-- The fault summary with the named flags cleared (R173). -/
def Faults.cleared (f : Faults) (c : ClearSet) : Faults :=
  { tickSlip := f.tickSlip && !c.tickSlip, imageBad := f.imageBad && !c.imageBad,
    imageSkipped := f.imageSkipped && !c.imageSkipped, burnSpoilt := f.burnSpoilt && !c.burnSpoilt,
    fenceSpent := if c.fenceSpent then none else f.fenceSpent }

/-- PART STATUS's own rule (R173). -/
def partStatusRule (args : List Byte) (s : State) : State × Answer :=
  match clearSetOf (argByte args 0) with
  | none => (s, .bare .badArg)
  | some c =>
    (s.setFaults (s.engine.faults.cleared c),
      { status := .ok
        content := [s.part.code] ++ s.engine.faults.bytes ++ bytes2 s.divider ++
          [yesNo s.images.burning.isSome, byte s.engine.usedSlots] })

/-- PART_STATUS (R173). -/
def execPartStatus (s : State) : Host.Outcome State Fault Refusal := .next (s.takeMgmt .partStatus partStatusRule)

/-! ## The load (R187 to R189) -/

/-- The source a load chooses at its start (R187). -/
def chooseSource (imageSkip : Bool) (a b : BankState) : LoadSource :=
  if imageSkip then .factorySkipped
  else if b = .written then .bankB
  else if a = .written then .bankA
  else if a = .blank ∧ b = .blank then .factoryUnprogrammed
  else .factorySpoilt

/-- The start of a load: straps sampled, bank states derived, the source chosen (R163, R187). -/
def State.startLoad (s : State) (address : Fin 4) (imageSkip : Bool) : State :=
  let x := { s.images with bankA := s.images.bankA.derived, bankB := s.images.bankB.derived }
  { s.setImages x with
    addressStraps := address, load := some (chooseSource imageSkip x.bankA.state x.bankB.state),
    restarting := false, resetPin := false }

/-- The image a source names, if it is a bank (R188). -/
def ImageStore.imageOf (x : ImageStore) : LoadSource → Option Memory
  | .bankA => some x.bankA.content
  | .bankB => some x.bankB.content
  | _ => none

/-- The definition a load gives resource `r` (R188, R26). -/
def loadedDefinition (image : Option Memory) (r : ResourceId) : Definition :=
  ((image.bind fun m => definitionOf r.val (m.definitionByte r))).getD .factory

/-- The profile a load gives profile `p` (R188, R88). -/
def loadedProfile (image : Option Memory) (p : Fin 4) : Profile :=
  ((image.map fun m => profileOf (m.profileByte p)).filter Profile.valid).getD .factory

/-- The quota a load gives client `n` (R188, R133). -/
def loadedQuota (image : Option Memory) (n : Client) : Nat :=
  ((image.map fun m => (m.read (imageQuotas + n.val)).toNat).filter fun q => decide (1 ≤ q ∧ q ≤ 64)).getD
    Config.factoryQuota

/-- The divider a load gives TGEN (R188). -/
def loadedDivider (image : Option Memory) : Nat :=
  ((image.map fun m => (m.read imageDivider).toNat * 256 + (m.read (imageDivider + 1)).toNat).filter
    fun v => decide (Config.dividerMin ≤ v)).getD Config.factoryDivider

/-- A run record at the end of a load (R31, R35, R189). -/
def Run.loaded (d : Definition) (x : Run) : Run :=
  if d.defined ∧ d.startOnline ∧ ¬ x.spent then x.online else x.offline

/-- The configuration of a load in the lease engine (R188, R189). -/
def Engine.loaded (e : Engine) (image : Option Memory) : Engine :=
  { e with
    resources := Table.tab fun r =>
      { defn := loadedDefinition image r, run := (e.run r).loaded (loadedDefinition image r) }
    profiles := Table.tab fun p => loadedProfile image p
    sessions := Table.tab fun n => { e.session n with quota := loadedQuota image n } }

/-- The flag a load's source sets (R187). -/
def Faults.afterLoad (f : Faults) (src : LoadSource) : Faults :=
  match src with
  | .factorySkipped => { f with imageSkipped := true }
  | .factorySpoilt => { f with imageBad := true }
  | _ => f

/-- The end of a load from `src` (R189). -/
def State.finishLoad (s : State) (src : LoadSource) : State :=
  let image := s.images.imageOf src
  let e := s.engine.loaded image
  let t := { s.setEngine { e with faults := e.faults.afterLoad src } with
             divider := loadedDivider image, images := { s.images with source := src }, load := none }
  (if src = .factorySpoilt then { t with part := .safe } else t.enterService).settle

/-- LOAD_END (R189). -/
def execLoadEnd (s : State) : Host.Outcome State Fault Refusal :=
  .next (match s.load with
    | some src => s.finishLoad src
    | none => s)

/-! ## Power-on reset and the reset pin -/

/-- What power-on reset and the reset pin do alike: blocks and MPORT cleared, a burn cut, the staging buffer
cleared (R151, R166, R181, R185). The divider and the load source stand until the load ends (log 7). -/
def State.hardReset (s : State) : State :=
  let t := s.cutBurn.resetBlocks
  { t.setImages { t.images with staging := [] } with mport := .cleared, restarting := false, load := none }

/-- POWER_ON_RESET (R23, R31, R133, R140, R172, R187): the banks are kept for the life of the part. -/
def execPowerOnReset (address : Fin 4) (imageSkip : Bool) (s : State) : Host.Outcome State Fault Refusal :=
  let t := { s.hardReset.setEngine .powerOn with
             divider := Config.factoryDivider, clientData := [], mgmtData := [], mgmtAck := false }
  .next (t.setImages { t.images with source := .factoryUnprogrammed } |>.startLoad address imageSkip).settle

/-- The lease engine at the assertion of the reset pin (R23, R31, R133, R172). Definitions, profiles and quotas are set
by the load that follows; that they stand as they were until its end is a DESIGN CHOICE (log 7). -/
def Engine.pinReset (e : Engine) : Engine :=
  { ((e.freeAll.closeAll).mapRuns fun _ x => x.offline) with faults := .clear }

/-- RESET_PIN_ASSERT (R40, R151, R166, R172). Configuration stands as it was until the load that follows ends
(log 7). -/
def execResetPinAssert (s : State) : Host.Outcome State Fault Refusal :=
  let t := s.hardReset
  .next { t.setEngine t.engine.pinReset with resetPin := true }.settle

/-- RESET_PIN_RELEASE (R163, R187). -/
def execResetPinRelease (address : Fin 4) (imageSkip : Bool) (s : State) : Host.Outcome State Fault Refusal :=
  .next (if s.resetPin then s.startLoad address imageSkip else s)

end Sys2Proof.Machine
end

