-- ==== Sys2Proof/Machine/Queries.lean ====
section
/-! DEFINITION. Notices and queries: SCAN, ACK, QUERY_LEASE, QUERY_RESOURCE, CHECK_FENCE (chapters 1, 2, 6
and 8). -/

namespace Sys2Proof.Machine

/-- SCAN's own rule (R141). -/
def scanRule (n : Client) (_args : List Byte) (s : State) : State × Answer :=
  let e := s.engine
  match e.firstWhere (Record.noticed n) with
  | none => (s, { status := .none, content := [0] })
  | some k =>
    (s, { status := .ok
          content := handleBytes k (e.slot k).generation ++
            (((e.record k).map fun rec =>
              [rec.standing.code, byte rec.resource.val, rec.unseen.code, rec.standing.causeByte]).getD []) ++
            [byte (e.countWhere (Record.noticed n))] })

/-- SCAN (R141). -/
def execScan (n : Client) (s : State) : Host.Outcome State Fault Refusal :=
  .next (s.takeClient .scan n (scanRule n))

/-- The ACK names the terminal member of the record's kind of tombstone (R144). -/
def Standing.acknowledged (x : Standing) (named : Unseen) : Bool :=
  match x with
  | .revoked _ _ => named.revoked
  | .lapsed _ => named.lapsed
  | .waiting _ => false
  | .held _ => false

/-- ACK's own rule (R143, R144). The content: state and cause as found, the set that remains, the freed mark. -/
def ackRule (n : Client) (args : List Byte) (s : State) : State × Answer :=
  match changeSetOf (argByte args 2) with
  | none => (s, .bare .badArg)
  | some named =>
    s.withHandle (some n) (argWord args 0) fun k rec =>
      let found := [rec.standing.code, rec.standing.causeByte]
      if rec.standing.acknowledged named then
        (s.setEngine (s.engine.freeSlot k),
          { status := .ok, content := found ++ [Unseen.empty.code, yesNo true] })
      else
        let left := rec.unseen.without named
        (s.setEngine (s.engine.putRecord k { rec with unseen := left }),
          { status := .ok, content := found ++ [left.code, yesNo false] })

/-- ACK (R143). -/
def execAck (n : Client) (s : State) : Host.Outcome State Fault Refusal :=
  .next (s.takeClient .ack n (ackRule n))

/-- QUERY LEASE's own rule; the management controller makes no NOT_HOLDER check (R21, R22). -/
def queryLeaseRule (owner : Option Client) (args : List Byte) (s : State) : State × Answer :=
  s.withHandle owner (argWord args 0) fun k rec =>
    (s, { status := .ok, content := leaseBytes s.engine k rec })

/-- QUERY_LEASE (R21, R22). -/
def execQueryLease (from_ : Sender) (s : State) : Host.Outcome State Fault Refusal :=
  match from_ with
  | .client n => .next (s.takeClient .queryLease n (queryLeaseRule (some n)))
  | .management => .next (s.takeMgmt .queryLease (queryLeaseRule none))

/-- QUERY RESOURCE's own rule (R36, R37). -/
def queryResourceRule (args : List Byte) (s : State) : State × Answer :=
  s.withResource (argByte args 0) fun r => (s, { status := .ok, content := resourceBytes s r })

/-- QUERY_RESOURCE (R36, R37). -/
def execQueryResource (from_ : Sender) (s : State) : Host.Outcome State Fault Refusal :=
  match from_ with
  | .client n => .next (s.takeClient .queryResource n queryResourceRule)
  | .management => .next (s.takeMgmt .queryResource queryResourceRule)

/-- The record is held on `r` and carries `fence` (R114). -/
def Record.carries (r : ResourceId) (fence : Nat) (rec : Record) : Bool :=
  match rec.standing with
  | .held h => decide (rec.resource = r) && decide (h.fence = fence)
  | _ => false

/-- CHECK FENCE's own rule (R114, R115). -/
def checkFenceRule (args : List Byte) (s : State) : State × Answer :=
  s.withResource (argByte args 0) fun r =>
    (s, { status := if (s.engine.firstWhere (Record.carries r (argLong args 1))).isSome then .current else .staleFence
          content := bytes4 (s.engine.run r).fence })

/-- CHECK_FENCE (R114, R115). -/
def execCheckFence (from_ : Sender) (s : State) : Host.Outcome State Fault Refusal :=
  match from_ with
  | .client n => .next (s.takeClient .checkFence n checkFenceRule)
  | .management => .next (s.takeMgmt .checkFence checkFenceRule)

end Sys2Proof.Machine
end

