-- ==== Sys2Proof/Machine/Sessions.lean ====
section
/-! DEFINITION. Sessions and heartbeats: OPEN, CLOSE, STATUS, SET_HEARTBEAT, BAR, UNBAR, SET_QUOTA,
QUERY_SESSION and RENEW_ALL (chapters 7, 9 and 10). -/

namespace Sys2Proof.Machine

/-- OPEN's own rule (R120). -/
def openRule (n : Client) (_args : List Byte) (s : State) : State × Answer :=
  let epochOf (t : State) : Answer := { status := .ok, content := [byte (t.engine.session n).epoch] }
  match (s.engine.session n).state with
  | .closed => let t := s.startSession n; (t, epochOf t)
  | .opened => let t := (s.endSession n).startSession n; (t, epochOf t)
  | .barred => (s, .bare .barred)

/-- OPEN (R120). -/
def execOpenSession (n : Client) (s : State) : Host.Outcome State Fault Refusal :=
  .next (s.takeClient .openSession n (openRule n))

/-- CLOSE's own rule (R123). -/
def closeRule (n : Client) (_args : List Byte) (s : State) : State × Answer :=
  let t := s.endSession n
  (t.setEngine (t.engine.setSessionState n .closed), .bare .ok)

/-- CLOSE (R123). -/
def execCloseSession (n : Client) (s : State) : Host.Outcome State Fault Refusal :=
  .next (s.takeClient .closeSession n (closeRule n))

/-- STATUS's own rule (R158). -/
def statusRule (n : Client) (_args : List Byte) (s : State) : State × Answer :=
  let x := s.engine.session n
  (s, { status := .ok
        content := [s.part.code, x.state.code, byte x.count, byte x.quota, (s.heartbeat n).selection.code,
          yesNo (s.engine.hasNotice n)] })

/-- STATUS (R158). -/
def execStatus (n : Client) (s : State) : Host.Outcome State Fault Refusal :=
  .next (s.takeClient .status n (statusRule n))

/-- SET HEARTBEAT's own rule (R127). -/
def setHeartbeatRule (n : Client) (args : List Byte) (s : State) : State × Answer :=
  match selectionOf (argByte args 0) with
  | none => (s, .bare .badArg)
  | some sel =>
    let x := s.heartbeat n
    (s.setHeartbeat n { x with selection := sel, previous := if sel = x.selection then x.previous else .invalid },
      { status := .ok, content := [sel.code] })

/-- SET_HEARTBEAT (R127). -/
def execSetHeartbeat (n : Client) (s : State) : Host.Outcome State Fault Refusal :=
  .next (s.takeClient .setHeartbeat n (setHeartbeatRule n))

/-- How many held records client `n` owns. -/
def Engine.heldOf (e : Engine) (n : Client) : Nat := e.countWhere fun rec => decide (rec.client = n) && rec.isHeld

/-- How many other records client `n` owns. -/
def Engine.notHeldOf (e : Engine) (n : Client) : Nat := e.countWhere fun rec => decide (rec.client = n) && !rec.isHeld

/-- BAR's own rule (R124). -/
def barRule (args : List Byte) (s : State) : State × Answer :=
  s.withClient (argByte args 0) fun n =>
    if (s.engine.session n).state = .barred then (s, .bare .wrongState)
    else
      let t := (s.setEngine ((s.engine.barSession n).setSessionState n .barred)).setHeartbeat n .cleared
      (t, { status := .ok, content := [byte (s.engine.heldOf n), byte (s.engine.notHeldOf n)] })

/-- BAR (R124). -/
def execBar (s : State) : Host.Outcome State Fault Refusal := .next (s.takeMgmt .bar barRule)

/-- UNBAR's own rule (R125). -/
def unbarRule (args : List Byte) (s : State) : State × Answer :=
  s.withClient (argByte args 0) fun n =>
    if (s.engine.session n).state = .barred then (s.setEngine (s.engine.setSessionState n .closed), .bare .ok)
    else (s, .bare .wrongState)

/-- UNBAR (R125). -/
def execUnbar (s : State) : Host.Outcome State Fault Refusal := .next (s.takeMgmt .unbar unbarRule)

/-- SET QUOTA's own rule (R126). -/
def setQuotaRule (args : List Byte) (s : State) : State × Answer :=
  s.withClient (argByte args 0) fun n =>
    let q := argByte args 1
    if 1 ≤ q ∧ q ≤ 64 then
      (s.setEngine (s.engine.setSession n { s.engine.session n with quota := q }), .bare .ok)
    else (s, .bare .badArg)

/-- SET_QUOTA (R126). -/
def execSetQuota (s : State) : Host.Outcome State Fault Refusal := .next (s.takeMgmt .setQuota setQuotaRule)

/-- QUERY SESSION's own rule (R178). -/
def querySessionRule (args : List Byte) (s : State) : State × Answer :=
  s.withClient (argByte args 0) fun n =>
    let x := s.engine.session n
    let hb := s.heartbeat n
    (s, { status := .ok
          content := [x.state.code, byte x.epoch, byte x.quota, byte x.count, hb.selection.code,
            yesNo hb.renewalPending, yesNo (Table.get s.attention n)] })

/-- QUERY_SESSION (R178). -/
def execQuerySession (s : State) : Host.Outcome State Fault Refusal := .next (s.takeMgmt .querySession querySessionRule)

/-- A record at a renew-all of client `n`: renewed if held, line-renewable and not contended (R131). -/
def Engine.renewLine (e : Engine) (n : Client) (rec : Record) : Record :=
  match rec.standing with
  | .held h =>
    if rec.client = n ∧ rec.lineRenewable ∧ ¬ e.contended rec.resource h then (e.renewed rec h none).1 else rec
  | _ => rec

/-- The records after a renew-all of client `n` (R131); a renewal changes no queue and no band, so the order
of the visits does not matter. -/
def Engine.renewAll (e : Engine) (n : Client) : Engine :=
  if (e.session n).state = .opened then e.mapRecords fun _ rec => e.renewLine n rec else e

/-- RENEW_ALL (R131, R161): HBS clears the pending flag as ARB hands the renew-all (R130). -/
def execRenewAll (n : Client) (s : State) : Host.Outcome State Fault Refusal :=
  .next (if s.handed = some (.renewAll n) then
    let s1 := (s.serve n).setHeartbeat n { s.heartbeat n with renewalPending := false }
    (s1.setEngine (s1.engine.renewAll n)).settle
  else s)

end Sys2Proof.Machine
end

