-- ==== Sys2Proof/Machine/Ticks.lean ====
section
/-! DEFINITION. Ticks: TICK, TICK_TAKEN, LAPSE, EXPIRY and QUARANTINE_END (chapters 4 and 7). -/

namespace Sys2Proof.Machine

/-! ## A tick produced (R67, R128) -/

/-- An edge in the direction the selection names (R128). -/
def Selection.edge (sel : Selection) (previous : Sample) (high : Bool) : Bool :=
  match sel, previous, high with
  | .rising, .low, true => true
  | .falling, .high, false => true
  | .both, .low, true => true
  | .both, .high, false => true
  | _, _, _ => false

/-- The sample of a line that stands HIGH or LOW. -/
def sampleOf (high : Bool) : Sample := if high then .high else .low

/-- HBS samples one line (R128). -/
def Heartbeat.sample (x : Heartbeat) (opened high : Bool) : Heartbeat :=
  { x with previous := sampleOf high
           renewalPending := x.renewalPending || (x.selection.edge x.previous high && opened) }

/-- A tick delivered to ARB: counted, or dropped with TICK_SLIP at a full count (R67). -/
def State.countTick (s : State) : State :=
  if s.untaken < Config.untakenMax then { s with untaken := s.untaken + 1 }
  else s.setFaults { s.engine.faults with tickSlip := true }

/-- A tick delivered to HBS: every line sampled at the levels `hb` (R128). -/
def State.sampleHeartbeats (s : State) (hb : Vector Bool 6) : State :=
  { s with hbPins := hb
           heartbeats := Table.tab fun n =>
             (s.heartbeat n).sample ((s.engine.session n).state == .opened) (Table.get hb n) }

/-- TGEN produces a tick and starts the next period; the tick goes to HBS and to ARB (R64, R67). -/
def State.produceTick (s : State) (hb : Vector Bool 6) : State :=
  { (s.sampleHeartbeats hb).countTick with elapsed := 0 }

/-- TICK (R67): produced only while TGEN runs (R65). -/
def execTick (hb : Vector Bool 6) (s : State) : Host.Outcome State Fault Refusal :=
  .next (if s.running then s.produceTick hb else s)

/-- One reference period passes (R64): at the divider a tick is produced, HB0-HB5 standing as last presented. -/
def State.referencePeriod (s : State) : State :=
  if s.running then
    if s.divider ≤ s.elapsed + 1 then s.produceTick s.hbPins else { s with elapsed := s.elapsed + 1 }
  else s

/-! ## The four stages of a tick (R69) -/

/-- Stage 1 marks this record to lapse: its bounded patience reaches 0 (R70). -/
def Record.lapses (rec : Record) : Bool :=
  match rec.standing with
  | .waiting (.ticks p) => decide (p ≤ 1)
  | _ => false

/-- Stage 1 marks this record to expire: its remaining reaches 0 (R70). -/
def Record.expires (rec : Record) : Bool :=
  match rec.standing with
  | .held h => decide (h.remaining ≤ 1)
  | _ => false

/-- The countdown of one record under its resource's warning lead (R70). A record that reaches 0 is not made
WARNED at that countdown. -/
def Record.countdown (lead : Nat) (rec : Record) : Record :=
  match rec.standing with
  | .waiting (.ticks p) => { rec with standing := .waiting (.ticks (p - 1)) }
  | .held h =>
    let left := h.remaining - 1
    let st := if h.state = .active ∧ left ≠ 0 then heldState lead left else h.state
    { rec with standing := .held { h with state := st, remaining := left }
               unseen := rec.unseen.warn h.state st }
  | _ => rec

/-- Stage 1, countdown (R70). -/
def Engine.countdown (e : Engine) : Engine :=
  e.mapRecords fun _ rec => rec.countdown (e.defn rec.resource).lead

/-- The slots whose record passes `p`, in slot order. -/
def Engine.slotsWhere (e : Engine) (p : Record → Bool) : List SlotId :=
  (List.finRange 64).filter fun k => (e.record k).any p

/-- A slot of the list holds a record that names `r`. -/
def Engine.names (e : Engine) (l : List SlotId) (r : ResourceId) : Bool :=
  l.any fun k => (e.record k).any fun rec => decide (rec.resource = r)

/-- Stage 2, lapses, of the marked slots; then admission once for each resource that lost a waiter (R71). -/
def Engine.lapseStage (e : Engine) (marked : List SlotId) : Engine :=
  (marked.foldl (fun e k => e.lapse k .patience) e).admissionWhere (e.names marked)

/-- Stage 3, expiries, of the marked slots still held; then admission once for each resource that lost a
holder; it stops at once in QUARANTINE (R72). -/
def Engine.expireStage (e : Engine) (marked : List SlotId) : Engine :=
  let still := marked.filter fun k => (e.record k).any Record.isHeld
  (still.foldl (fun e k => e.revoke k .expired) e).admissionWhere (e.names still)

/-- Stage 4 for one resource: a quarantine that began before this tick counts down, and at 0 the resource
becomes FREE and admission runs (R73, R106). -/
def Engine.countQuarantine (before : Engine) (e : Engine) (r : ResourceId) : Engine :=
  match (before.run r).state, (e.run r).state with
  | .quarantine _, .quarantine q =>
    if q ≤ 1 then (e.setState r .free).admission r else e.setState r (.quarantine (q - 1))
  | _, _ => e

/-- The engine after the first two stages of a tick (R70, R71). -/
def Engine.afterLapses (e : Engine) : Engine := e.countdown.lapseStage (e.slotsWhere Record.lapses)

/-- The engine after the first three stages of a tick (R72). -/
def Engine.afterExpiries (e : Engine) : Engine := e.afterLapses.expireStage (e.slotsWhere Record.expires)

/-- A whole tick (R69). -/
def Engine.tick (e : Engine) : Engine := (List.finRange 32).foldl e.countQuarantine e.afterExpiries

/-- LENG takes an untaken tick, the count falling by one (R67, R69). -/
def State.takeTick (s : State) : State :=
  { s.setEngine s.engine.tick with untaken := s.untaken - 1 }.settle

/-- The next item ARB hands is a tick, and `p` holds of it. -/
def State.takeTickIf (s : State) (p : Bool) : State := if s.handed = some .tickTaken ∧ p then s.takeTick else s

/-- TICK_TAKEN (R69). -/
def execTickTaken (s : State) : Host.Outcome State Fault Refusal := .next (s.takeTickIf true)

/-- The tick that comes next lapses the record in slot `k` (R70, R71). -/
def Engine.tickLapses (e : Engine) (k : SlotId) : Bool := (e.record k).any Record.lapses

/-- The tick that comes next expires the record in slot `k`: it is marked, and still held when stage 3 reaches
it (R70, R72). -/
def Engine.tickExpires (e : Engine) (k : SlotId) : Bool :=
  (e.record k).any Record.expires && (e.afterLapses.record k).any Record.isHeld

/-- The tick that comes next ends the quarantine of `r` (R73). -/
def Engine.tickEndsQuarantine (e : Engine) (r : ResourceId) : Bool :=
  match (e.run r).state, (e.afterExpiries.run r).state with
  | .quarantine _, .quarantine q => decide (q ≤ 1)
  | _, _ => false

/-- LAPSE (R71, log 4): a lapse is part of a tick and LENG takes a tick whole (R69), so this row is the taking
of the waiting tick, where that tick lapses the record in slot `k`. -/
def execLapse (k : SlotId) (s : State) : Host.Outcome State Fault Refusal :=
  .next (s.takeTickIf (s.engine.tickLapses k))

/-- EXPIRY (R72, log 4): the taking of the waiting tick, where that tick expires the record in slot `k`. -/
def execExpiry (k : SlotId) (s : State) : Host.Outcome State Fault Refusal :=
  .next (s.takeTickIf (s.engine.tickExpires k))

/-- QUARANTINE_END (R106, log 4): the taking of the waiting tick, where that tick ends the quarantine of `r`. -/
def execQuarantineEnd (r : ResourceId) (s : State) : Host.Outcome State Fault Refusal :=
  .next (s.takeTickIf (s.engine.tickEndsQuarantine r))

end Sys2Proof.Machine
end

