-- ==== Sys2Proof/Machine/Dispatch.lean ====
section
/-! DEFINITION. The meaning of each command: one arm for each row of opcode_table.json. -/

namespace Sys2Proof.Machine

/-- A command's effect on everything but the queue. -/
def exec (i : Instr) (s : State) : Host.Outcome State Fault Refusal :=
  match i with
  | .requestTransaction n select bytes stray => Sys2Proof.Machine.execRequestTransaction n select bytes stray s
  | .fetch n select clocked stray => Sys2Proof.Machine.execFetch n select clocked stray s
  | .managementWrite start bytes => Sys2Proof.Machine.execManagementWrite start bytes s
  | .managementRead start clocked => Sys2Proof.Machine.execManagementRead start clocked s
  | .openSession n => Sys2Proof.Machine.execOpenSession n s
  | .closeSession n => Sys2Proof.Machine.execCloseSession n s
  | .status n => Sys2Proof.Machine.execStatus n s
  | .setHeartbeat n => Sys2Proof.Machine.execSetHeartbeat n s
  | .acquire n => Sys2Proof.Machine.execAcquire n s
  | .renew n => Sys2Proof.Machine.execRenew n s
  | .release n => Sys2Proof.Machine.execRelease n s
  | .cancel n => Sys2Proof.Machine.execCancel n s
  | .scan n => Sys2Proof.Machine.execScan n s
  | .ack n => Sys2Proof.Machine.execAck n s
  | .queryLease from_ => Sys2Proof.Machine.execQueryLease from_ s
  | .queryResource from_ => Sys2Proof.Machine.execQueryResource from_ s
  | .checkFence from_ => Sys2Proof.Machine.execCheckFence from_ s
  | .defineResource => Sys2Proof.Machine.execDefineResource s
  | .readDefinition => Sys2Proof.Machine.execReadDefinition s
  | .setProfile => Sys2Proof.Machine.execSetProfile s
  | .readProfile => Sys2Proof.Machine.execReadProfile s
  | .setQuota => Sys2Proof.Machine.execSetQuota s
  | .setDivider => Sys2Proof.Machine.execSetDivider s
  | .bar => Sys2Proof.Machine.execBar s
  | .unbar => Sys2Proof.Machine.execUnbar s
  | .forceRevoke => Sys2Proof.Machine.execForceRevoke s
  | .lift => Sys2Proof.Machine.execLift s
  | .takeOffline => Sys2Proof.Machine.execTakeOffline s
  | .bringOnline => Sys2Proof.Machine.execBringOnline s
  | .enterMaintenance => Sys2Proof.Machine.execEnterMaintenance s
  | .leaveMaintenance => Sys2Proof.Machine.execLeaveMaintenance s
  | .enterSafe => Sys2Proof.Machine.execEnterSafe s
  | .serviceReset => Sys2Proof.Machine.execServiceReset s
  | .restartComplete => Sys2Proof.Machine.execRestartComplete s
  | .partStatus => Sys2Proof.Machine.execPartStatus s
  | .querySession => Sys2Proof.Machine.execQuerySession s
  | .capture => Sys2Proof.Machine.execCapture s
  | .writeStaging => Sys2Proof.Machine.execWriteStaging s
  | .readStaging => Sys2Proof.Machine.execReadStaging s
  | .burn => Sys2Proof.Machine.execBurn s
  | .bankStatus => Sys2Proof.Machine.execBankStatus s
  | .burnEnd misread => Sys2Proof.Machine.execBurnEnd misread s
  | .tick hb => Sys2Proof.Machine.execTick hb s
  | .tickTaken => Sys2Proof.Machine.execTickTaken s
  | .lapse k => Sys2Proof.Machine.execLapse k s
  | .expiry k => Sys2Proof.Machine.execExpiry k s
  | .quarantineEnd r => Sys2Proof.Machine.execQuarantineEnd r s
  | .renewAll n => Sys2Proof.Machine.execRenewAll n s
  | .powerOnReset address imageSkip => Sys2Proof.Machine.execPowerOnReset address imageSkip s
  | .resetPinAssert => Sys2Proof.Machine.execResetPinAssert s
  | .resetPinRelease address imageSkip => Sys2Proof.Machine.execResetPinRelease address imageSkip s
  | .loadEnd => Sys2Proof.Machine.execLoadEnd s

end Sys2Proof.Machine
end

