-- ==== Sys2Proof/Machine/Idle.lean ====
section
/-! DEFINITION. What the part does by itself when no command waits (log 3). -/

namespace Sys2Proof.Machine

/-- With no command waiting ARB hands the next item, if any (R159: it hands at once an item that arrives while
nothing is being taken); otherwise one reference period passes (R64). DESIGN CHOICE (log 3). -/
def idle (s : State) : Host.Outcome State Fault Refusal :=
  match s.handed with
  | some c => exec c s
  | none => .next s.referencePeriod

end Sys2Proof.Machine
end

