-- ==== Sys2Proof/Safety.lean ====
section
/-! DEFINITION. What the rules promise of the part between any two happenings, and the terms the statements use.
Each law is a decidable proposition over a state's own fields; none speaks of how the state was reached. -/

namespace Sys2Proof.Machine

/-! ## The terms of the statements -/

/-- ARB hands the request `q` of client port `n` next, and neither the gating nor the session checks refuse it
(R155 to R157). -/
abbrev State.admits (s : State) (n : Client) (q : Request ClientKind) : Prop :=
  s.handed = some (q.kind.command n) ∧ (s.port n).standing = .queued q ∧ s.clientRefusal n q = none

/-- ARB hands MPORT's request `q` next, and it is available in the part state (R168). -/
abbrev State.admitsMgmt (s : State) (q : Request MgmtKind) : Prop :=
  s.handed = some q.kind.command ∧ s.mport.standing = .queued q ∧ q.kind.available s.part = true

/-- The part after LENG has taken request `q` of client port `n`, left the lease engine as `e` and answered `a`:
the response stands in the port with the pending flags it had, the pointer stands after `n`, the lines and the
attention lines follow `e`, and nothing else has changed. -/
def State.afterClient (s : State) (n : Client) (q : Request ClientKind) (e : Engine) (a : Answer) : State :=
  { s with
    engine := e
    pointer := n + 1
    ports := Table.put s.ports n
      { standing := .ready (response (s.port n).overlap (s.port n).priorDiscarded q.kind.code a)
        overlap := false, priorDiscarded := false } }.settle

/-- The part after MPORT's request `q` has been taken, the lease engine left as `e`, and `a` answered. -/
def State.afterMgmt (s : State) (q : Request MgmtKind) (e : Engine) (a : Answer) : State :=
  { s with
    engine := e
    mport :=
      { standing := .ready (response s.mport.overlap s.mport.priorDiscarded q.kind.code a)
        overlap := false, priorDiscarded := false } }.settle

/-- Two lease engines agree on everything of resource `r`: its definition, run record and queue. -/
abbrev Engine.sameResource (e e' : Engine) (r : ResourceId) : Prop := e'.defn r = e.defn r ∧ e'.run r = e.run r

/-- No grant that a happening of the part as it stands could make on `r` finds the fence counter full: there are
at most as many as the queue is deep, and one at ACQUIRE. -/
abbrev Engine.fenceRoom (e : Engine) (r : ResourceId) : Prop :=
  (e.run r).fence + (e.run r).queue.length < Config.fenceMax

/-- What a record keeps for as long as it stands (R7, R10, R11, R17). -/
abbrev Record.sameClaim (rec rec' : Record) : Prop :=
  rec'.client = rec.client ∧ rec'.resource = rec.resource ∧ rec'.mode = rec.mode ∧ rec'.tag = rec.tag ∧
    rec'.lineRenewable = rec.lineRenewable

/-- The table of R150, at a port whose kinds have the codes `code` and accept the argument lengths `accepts`: the first
check that fails gives the answer, and a frame that passes all five is a request (R150, R164). -/
abbrev checkedInOrder {κ : Type} (code : κ → Byte) (accepts : Nat → κ → Bool) (bytes : List Byte) (out : Checked κ) :
    Prop :=
  let n := (bytes.getD 2 0).toNat
  let tooLong := 3 ≤ bytes.length ∧ 12 < n
  let badFrame := bytes.length < 4 ∨ bytes.length ≠ 4 + n
  let badCheck := bytes.getD (3 + n) 0 ≠ crc8 (bytes.take (3 + n))
  let badKind := ∀ k, code k ≠ bytes.getD 0 0
  let badLength := ∀ k, code k = bytes.getD 0 0 → accepts n k = false
  (tooLong → out = .faulty .badLength) ∧
  (¬ tooLong → badFrame → out = .faulty .badFrame) ∧
  (¬ tooLong → ¬ badFrame → badCheck → out = .faulty .badCheck) ∧
  (¬ tooLong → ¬ badFrame → ¬ badCheck → badKind → out = .faulty .badKind) ∧
  (¬ tooLong → ¬ badFrame → ¬ badCheck → ¬ badKind → badLength → out = .faulty .badLength) ∧
  (¬ tooLong → ¬ badFrame → ¬ badCheck → ¬ badLength → ∃ q, out = .request q)

/-- R152's table, row by row: what a port `p` becomes when the frame with header `header`, checked to `c`, ends. -/
abbrev Port.deliversTo {κ : Type} (p : Port κ) (header : Byte) (c : Checked κ) (p' : Port κ) : Prop :=
  match p.standing, c with
  | .idle, .request q => p' = { p with standing := .queued q }
  | .idle, .faulty st =>
    p' = { standing := .ready (response false false header (.bare st)), overlap := false, priorDiscarded := false }
  | .queued _, _ => p' = { p with overlap := true }
  | .ready _, .request q => p' = { p with standing := .queued q, priorDiscarded := true }
  | .ready _, .faulty st =>
    p' = { standing := .ready (response p.overlap true header (.bare st)), overlap := false, priorDiscarded := false }

/-- The table of R154 and R165: a fetch that drives `n` whole bytes from the port-state byte on reads `bytes`, then
filler, and leaves the port `p` as `p'`. -/
abbrev Port.fetchesTo {κ : Type} (p : Port κ) (n : Nat) (bytes : List Byte) (p' : Port κ) : Prop :=
  match p.standing with
  | .idle => bytes = [0x00] ∧ p' = p
  | .queued _ => bytes = [0x01] ∧ p' = p
  | .ready resp => bytes = 0x02 :: resp ∧ p' = if resp.length < n then { p with standing := .idle } else p

/-- Slot `k`, which holds `rec`, freed as R6 gives: FREE, its generation advanced, its client's count one lower. -/
abbrev Engine.vacated (e : Engine) (k : SlotId) (rec : Record) : Engine :=
  (e.setSlot k { generation := ((e.slot k).generation + 1) % 1024, record := none }).setSession rec.client
    { e.session rec.client with count := (e.session rec.client).count - 1 }

/-- R43's table: resource `r` after a held record of mode `m` has left its holder set. -/
abbrev Engine.left (e : Engine) (r : ResourceId) (m : Mode) : Engine :=
  let x := e.run r
  e.setRun r { x with
    holders := x.holders - 1
    state := match m, x.state with
      | .exclusive, .exclusive => .free
      | .shared, .shared => if x.holders - 1 = 0 then .free else .shared
      | _, st => st }

/-- R45: the record in slot `k` has left the queue of `r`, the gap is closed and the band rule has run. -/
abbrev Engine.unqueued (e : Engine) (r : ResourceId) (k : SlotId) : Engine :=
  (e.setRun r { e.run r with queue := (e.run r).queue.erase k }).bandRule r

/-- A handle `w`, as carried, is current and reaches `rec` in slot `k` (R3, R4, R191). -/
abbrev Engine.reaches (e : Engine) (w : Nat) (k : SlotId) (rec : Record) : Prop :=
  k = handleSlot w ∧ (e.slot k).generation = handleGeneration w ∧ e.record k = some rec

/-- A handle `w`, as carried, is stale (R4). -/
abbrev Engine.stale (e : Engine) (w : Nat) : Prop :=
  e.record (handleSlot w) = none ∨ (e.slot (handleSlot w)).generation ≠ handleGeneration w

/-- R50: `r` is grantable at once for an ACQUIRE of mode `m`. -/
abbrev Engine.atOnce (e : Engine) (r : ResourceId) (m : Mode) : Prop :=
  (e.run r).queue = [] ∧
    match m with
    | .exclusive => (e.run r).state = .free
    | .shared => ((e.run r).state = .free ∨ (e.run r).state = .shared) ∧ (e.run r).holders < (e.defn r).capacity

/-- Client `n` owns the record in slot `k`, which is live and names `r` (R52). -/
abbrev Engine.liveAt (e : Engine) (n : Client) (r : ResourceId) (k : SlotId) : Prop :=
  ((e.record k).any fun rec => decide (rec.client = n) && decide (rec.resource = r) && rec.isLive) = true

/-- Steps 2 to 5 of R51 do not refuse client `n` an ACQUIRE of mode `m` on `r`. -/
abbrev Engine.acquirable (e : Engine) (n : Client) (r : ResourceId) (m : Mode) : Prop :=
  (e.defn r).defined = true ∧ (e.run r).state ≠ .offline ∧ ¬ (m = .shared ∧ (e.defn r).kind = .line) ∧
    (∀ k, ¬ e.liveAt n r k) ∧ (e.session n).count < (e.session n).quota

/-- Slot `k` is the lowest-numbered FREE slot (R5). -/
abbrev Engine.lowestFree (e : Engine) (k : SlotId) : Prop := e.record k = none ∧ ∀ j, j < k → e.record j ≠ none

/-- A held record's state by R75, R54 and R58: WARNED at or below a nonzero lead, else ACTIVE. -/
abbrev stateByLead (lead remaining : Nat) : HeldState := if lead ≠ 0 ∧ remaining ≤ lead then .warned else .active

/-- `rec` as a REVOKED tombstone with cause `c`, if it is held (R100). -/
abbrev Record.revokedBy (c : Cause) (rec : Record) : Record :=
  match rec.standing with
  | .held h => { rec with standing := .revoked h.fence c, unseen := { rec.unseen with revoked := true } }
  | _ => rec

/-- Every live record on `r` made a tombstone with cause OFFLINE and `r` OFFLINE as R30 gives (R112, R33). -/
abbrev Engine.downed (e : Engine) (r : ResourceId) (spent : Bool) : Engine :=
  (e.mapRecords fun _ rec =>
    if rec.resource = r then
      match rec.standing with
      | .held h => { rec with standing := .revoked h.fence .offline, unseen := { rec.unseen with revoked := true } }
      | .waiting _ => { rec with standing := .lapsed .offline, unseen := { rec.unseen with lapsed := true } }
      | _ => rec
    else rec).setRun r
    { state := .offline, holders := 0, band := 0, fence := (e.run r).fence, spent := spent, queue := [] }

/-- R33: `r` exhausted, its spent mark set, and FENCE_SPENT with the number it carried, or else this one. -/
abbrev Engine.exhausted (e : Engine) (r : ResourceId) : Engine :=
  { e.downed r true with faults := { e.faults with fenceSpent := some (e.faults.fenceSpent.getD r) } }

/-- The head of the queue of `r` is the WAITING record `rec` in slot `k` (R44, R57). -/
abbrev Engine.headed (e : Engine) (r : ResourceId) (k : SlotId) (rec : Record) : Prop :=
  (e.run r).queue.head? = some k ∧ e.record k = some rec ∧ rec.isWaiting = true

/-- R58 and R42: the WAITING record `rec` in slot `k` granted in place from the queue of `r`, under the ceiling of the
band its own removal left; or `r` exhausted where its fence counter cannot be raised (R33). -/
abbrev Engine.granted (e : Engine) (r : ResourceId) (k : SlotId) (rec : Record) : Engine :=
  if Config.fenceMax ≤ (e.run r).fence then e.exhausted r
  else
    let u := e.unqueued r k
    let x := u.run r
    let left := min rec.asked ((u.profileOf r).ceiling x.band)
    let st := stateByLead (e.defn r).lead left
    (u.setRun r { x with
        state := match rec.mode with
          | .exclusive => .exclusive
          | .shared => .shared
        holders := x.holders + 1
        fence := x.fence + 1 }).setSlot k
      { generation := (e.slot k).generation
        record := some { rec with
          standing := .held { state := st, remaining := left, fence := x.fence + 1, renewals := 0 }
          unseen := { rec.unseen with granted := true, warned := rec.unseen.warned || decide (st = .warned) } } }

/-- R122 step 1 at slot `k`: a record of client `n` leaves the holder set or the queue it stands in, and is freed. -/
abbrev Engine.endedAt (n : Client) (e : Engine) (k : SlotId) : Engine :=
  match e.record k with
  | none => e
  | some rec =>
    if rec.client = n then
      match rec.standing with
      | .held _ => (e.left rec.resource rec.mode).vacated k rec
      | .waiting _ => (e.unqueued rec.resource k).vacated k rec
      | _ => e.vacated k rec
    else e

/-- R124 step 1 at slot `k`: as `endedAt`, but that the end of an EXCLUSIVE lease puts its resource into QUARANTINE
where the definition has one (R101, R104). -/
abbrev Engine.barredAt (n : Client) (e : Engine) (k : SlotId) : Engine :=
  match e.record k with
  | none => e
  | some rec =>
    if rec.client = n then
      match rec.standing with
      | .held _ =>
        let gone := e.left rec.resource rec.mode
        let rest := (e.defn rec.resource).quarantine
        (if rec.mode = .exclusive ∧ rest ≠ 0 then
            gone.setRun rec.resource { gone.run rec.resource with state := .quarantine rest }
          else gone).vacated k rec
      | .waiting _ => (e.unqueued rec.resource k).vacated k rec
      | _ => e.vacated k rec
    else e

/-- The resources that a live record of client `n` names, in order of resource number (R122 step 2). -/
abbrev Engine.claimedBy (e : Engine) (n : Client) : List ResourceId :=
  (List.finRange 32).filter fun r => decide (∃ k, e.liveAt n r k)

/-- R122, steps 1 and 2: the client's records ended in slot order, then admission once for each resource on which a
held or WAITING record was freed. -/
abbrev Engine.sessionEnded (e : Engine) (n : Client) : Engine :=
  (e.claimedBy n).foldl Engine.admission ((List.finRange 64).foldl (Engine.endedAt n) e)

/-- R124, steps 1 and 2. -/
abbrev Engine.sessionBarred (e : Engine) (n : Client) : Engine :=
  (e.claimedBy n).foldl Engine.admission ((List.finRange 64).foldl (Engine.barredAt n) e)

/-- Every record freed, every session CLOSED with count 0, and every resource that is not OFFLINE made FREE
(R170 steps 1 to 3, R171). -/
abbrev Engine.cleared (e : Engine) : Engine :=
  { e with
    slots := Table.tab fun k =>
      { generation := if e.record k = none then (e.slot k).generation else ((e.slot k).generation + 1) % 1024
        record := none }
    sessions := Table.tab fun n => { e.session n with state := .closed, count := 0 }
    resources := Table.tab fun r =>
      { defn := e.defn r
        run := { state := if (e.run r).state = .offline then .offline else .free
                 holders := 0, band := 0, fence := (e.run r).fence, spent := (e.run r).spent, queue := [] } } }

/-! ## The lease table (chapters 1 and 7) -/

/-- Every slot is FREE. -/
abbrev Engine.empty (e : Engine) : Prop := ∀ k, e.record k = none

/-- A client's record count is the number of slots that hold a record of it (R117). -/
abbrev Engine.countLaw (e : Engine) : Prop :=
  ∀ n, (e.session n).count = e.countWhere fun rec => decide (rec.client = n)

/-- A client whose session is CLOSED or BARRED owns no record and has record count 0 (R118). -/
abbrev Engine.sessionLaw (e : Engine) : Prop :=
  ∀ n, (e.session n).state ≠ .opened →
    (e.session n).count = 0 ∧ ∀ k, (e.record k).all fun rec => decide (rec.client ≠ n)

/-- Epochs are 0 to 255, and an OPEN session's is not 0 (R117, R119). -/
abbrev Engine.epochLaw (e : Engine) : Prop :=
  ∀ n, (e.session n).epoch ≤ 255 ∧ ((e.session n).state = .opened → 1 ≤ (e.session n).epoch)

/-- Generations are 0 to 1023 (R2). -/
abbrev Engine.generationLaw (e : Engine) : Prop := ∀ k, (e.slot k).generation < Config.generations

/-- A client owns at most one live record per resource (R52). -/
abbrev Engine.liveLaw (e : Engine) : Prop :=
  ∀ j k, j ≠ k → (e.record j).all fun x => (e.record k).all fun y =>
    !(x.isLive && y.isLive && decide (x.client = y.client) && decide (x.resource = y.resource))

/-- The ranges of a record's fields (R12 to R16), a fence never above its resource's counter (R32). -/
def Record.ranged (fence : Nat) (rec : Record) : Bool :=
  decide (1 ≤ rec.asked ∧ rec.asked ≤ 65535) &&
  match rec.standing with
  | .waiting (.ticks p) => decide (1 ≤ p ∧ p ≤ 65534)
  | .waiting .unbounded => true
  | .held h => decide (1 ≤ h.remaining ∧ h.remaining ≤ rec.asked ∧ 1 ≤ h.fence ∧ h.fence ≤ fence ∧ h.renewals ≤ 255)
  | .revoked f _ => decide (1 ≤ f ∧ f ≤ fence)
  | .lapsed _ => true

/-- Every record's fields lie in their ranges (R12 to R16). -/
abbrev Engine.rangeLaw (e : Engine) : Prop := ∀ k, (e.record k).all fun rec => rec.ranged (e.run rec.resource).fence

/-- A held record is WARNED exactly when its remaining count is at or below a nonzero warning lead (R75). -/
def Record.warned (lead : Nat) (rec : Record) : Bool :=
  match rec.standing with
  | .held h => decide (h.state = if lead ≠ 0 ∧ h.remaining ≤ lead then .warned else .active)
  | _ => true

/-- R75 for every record. -/
abbrev Engine.warnLaw (e : Engine) : Prop := ∀ k, (e.record k).all fun rec => rec.warned (e.defn rec.resource).lead

/-- The unseen members and the cause a record can have in its state (R18, R19). -/
def Record.notices (rec : Record) : Bool :=
  match rec.standing with
  | .waiting _ => decide (rec.unseen = .empty)
  | .held _ => !rec.unseen.revoked && !rec.unseen.lapsed
  | .revoked _ c => rec.unseen.revoked && !rec.unseen.lapsed && (c == .expired || c == .forced || c == .offline)
  | .lapsed c =>
    decide (rec.unseen = { Unseen.empty with lapsed := true }) && (c == .patience || c == .forced || c == .offline)

/-- R18 and R19 for every record. -/
abbrev Engine.noticeLaw (e : Engine) : Prop := ∀ k, (e.record k).all Record.notices

/-! ## Resources (chapters 2, 3 and 5) -/

/-- A holder count is the number of held records that name the resource (R28). -/
abbrev Engine.holderLaw (e : Engine) : Prop := ∀ r, (e.run r).holders = e.heldOn r

/-- A queue holds each WAITING record of its own resource once, and nothing else (R44). -/
abbrev Engine.queueLaw (e : Engine) : Prop :=
  ∀ r, (e.run r).queue.Nodup ∧
    ∀ k, k ∈ (e.run r).queue ↔ ((e.record k).any fun rec => decide (rec.resource = r) && rec.isWaiting) = true

/-- The mode of the record at the head of a queue. -/
def Engine.headMode (e : Engine) (r : ResourceId) : Option Mode :=
  (e.run r).queue.head?.bind fun k => (e.record k).map (·.mode)

/-- Every held record that names `r` has mode `m`. -/
abbrev Engine.holdersAre (e : Engine) (r : ResourceId) (m : Mode) : Prop :=
  ∀ k, (e.record k).all fun rec => !(decide (rec.resource = r) && rec.isHeld) || decide (rec.mode = m)

/-- The row of R29's table that the resource's state names. -/
def Engine.standsAs (e : Engine) (r : ResourceId) : Bool :=
  let x := e.run r
  let capacity := (e.defn r).capacity
  decide (x.queue.length ≤ (e.defn r).queueLimit) &&
  match x.state with
  | .offline => decide (x.holders = 0 ∧ x.queue = [])
  | .free => decide (x.holders = 0 ∧ x.queue = [])
  | .exclusive => decide (x.holders = 1 ∧ e.holdersAre r .exclusive)
  | .shared => decide (1 ≤ x.holders ∧ x.holders ≤ capacity ∧ e.holdersAre r .shared ∧
      (x.queue = [] ∨ (e.headMode r = some .shared ∧ x.holders = capacity)))
  | .draining => decide (1 ≤ x.holders ∧ x.holders ≤ capacity ∧ e.holdersAre r .shared ∧ e.headMode r = some .exclusive)
  | .quarantine q => decide (x.holders = 0 ∧ 1 ≤ q ∧ q ≤ 255)

/-- R29 for every resource. -/
abbrev Engine.standingLaw (e : Engine) : Prop := ∀ r, e.standsAs r = true

/-- A live record on a LINE resource is EXCLUSIVE (R11). -/
abbrev Engine.lineModeLaw (e : Engine) : Prop :=
  ∀ k, (e.record k).all fun rec =>
    !(rec.isLive && decide ((e.defn rec.resource).kind = .line)) || decide (rec.mode = .exclusive)

/-- A resource that is not defined, or spent, is OFFLINE (R27, R35); a fence counter is in its range (R32). -/
abbrev Engine.onlineLaw (e : Engine) : Prop :=
  ∀ r, ((e.defn r).defined = false ∨ (e.run r).spent = true → (e.run r).state = .offline) ∧
    (e.run r).fence ≤ Config.fenceMax

/-- The band law of R89. -/
abbrev Engine.bandLaw (e : Engine) : Prop :=
  ∀ r, (e.run r).band ≤ 3 ∧
    if (e.run r).state = .offline then (e.run r).band = 0
    else
      (1 ≤ (e.run r).band → (e.profileOf r).threshold (e.run r).band ≤ (e.run r).queue.length) ∧
      ((e.run r).band ≤ 2 →
        (e.run r).queue.length < (e.profileOf r).threshold ((e.run r).band + 1) + (e.profileOf r).h)

/-- No two held records on one resource carry the same fence (R113). -/
abbrev Engine.fenceLaw (e : Engine) : Prop :=
  ∀ j k, j ≠ k → (e.record j).all fun x => (e.record k).all fun y =>
    match x.standing, y.standing with
    | .held h, .held g => !(decide (x.resource = y.resource) && decide (h.fence = g.fence))
    | _, _ => true

/-! ## Configuration (chapters 2, 4, 5, 7) -/

/-- A stored definition and a stored profile are always valid (R26, R88), a quota is 1 to 64 (R117), and the
divider is 16 to 65535 (R64). -/
abbrev State.configLaw (s : State) : Prop :=
  (∀ r, (s.engine.defn r).valid r = true) ∧ (∀ p, (Table.get s.engine.profiles p).valid = true) ∧
  (∀ n, 1 ≤ (s.engine.session n).quota ∧ (s.engine.session n).quota ≤ 64) ∧
  (Config.dividerMin ≤ s.divider ∧ s.divider ≤ 65535)

/-! ## Part states, ticks and heartbeats (chapters 4, 7, 9, 10 and 11) -/

/-- STARTING is one of three things: a load, a restart, or an asserted reset pin; no other part state is any
(R167, R187). -/
abbrev State.phaseLaw (s : State) : Prop :=
  s.load.isSome.toNat + s.restarting.toNat + s.resetPin.toNat = if s.part = .starting then 1 else 0

/-- In STARTING and in SAFE every slot is FREE and every session CLOSED (R23, R133, R170). -/
abbrev State.restLaw (s : State) : Prop :=
  s.part = .starting ∨ s.part = .safe → s.engine.empty ∧ ∀ n, (s.engine.session n).state = .closed

/-- TGEN runs exactly in SERVICE, and is short of its divider; outside SERVICE its period, the untaken ticks, the
samples and the pending flags are gone (R64, R65, R67, R68, R129, R130). -/
abbrev State.clockLaw (s : State) : Prop :=
  (s.running = true ↔ s.part = .service) ∧ s.untaken ≤ Config.untakenMax ∧ s.elapsed < s.divider ∧
  (s.part ≠ .service → s.elapsed = 0 ∧ s.untaken = 0 ∧
    ∀ n, (s.heartbeat n).previous = .invalid ∧ (s.heartbeat n).renewalPending = false)

/-- A client without an OPEN session has selection OFF and no pending flag (R122, R124, R130). -/
abbrev State.heartbeatLaw (s : State) : Prop :=
  ∀ n, (s.engine.session n).state ≠ .opened →
    (s.heartbeat n).selection = .off ∧ (s.heartbeat n).renewalPending = false

/-! ## Ports, outputs and the image store (chapters 2, 8, 9 and 11) -/

/-- A response as 12.3 frames it: its own length in byte 3, at most 32 bytes, the last the CRC-8 of the rest. -/
def framed (l : List Byte) : Bool :=
  decide (5 ≤ l.length ∧ l.length ≤ 32 ∧ (l.getD 3 0).toNat = l.length) &&
    l.getD (l.length - 1) 0 == crc8 (l.take (l.length - 1))

/-- A port outside QUEUED has both flags clear, and the response it holds is framed (R151, R153, 12.3). -/
def Port.sound {κ : Type} (p : Port κ) : Bool :=
  match p.standing with
  | .idle => !p.overlap && !p.priorDiscarded
  | .queued _ => true
  | .ready resp => !p.overlap && !p.priorDiscarded && framed resp

/-- `Port.sound` of all seven ports. -/
abbrev State.portLaw (s : State) : Prop := (∀ n, (s.port n).sound = true) ∧ s.mport.sound = true

/-- The level R38 gives line `n`, written out from its table. -/
def State.lineByRule (s : State) (n : Fin 16) : LineLevel :=
  let d := s.engine.defn (lineResource n)
  if d.defined = false ∨ d.kind = .token then .undriven
  else if s.part = .starting ∧ s.restarting = false then .undriven
  else if (s.part = .service ∨ s.part = .maintenance) ∧ (s.engine.run (lineResource n)).state = .exclusive then
    (if d.safeHigh then .low else .high)
  else (if d.safeHigh then .high else .low)

/-- L0 to L15 stand as R38 gives, and ATNn is active exactly when client n owns a record whose unseen set is not
empty (R139). -/
abbrev State.outputLaw (s : State) : Prop :=
  (∀ n, Table.get s.lines n = s.lineByRule n) ∧
  ∀ n, (Table.get s.attention n = true ↔
    ∃ k, ((s.engine.record k).any fun rec => decide (rec.client = n) && decide (rec.unseen ≠ .empty)) = true)

/-- The staging buffer and both banks are in canonical form. -/
abbrev State.bufferLaw (s : State) : Prop :=
  s.images.staging.wf = true ∧ s.images.bankA.content.wf = true ∧ s.images.bankB.content.wf = true

/-- What R179, R183, R184 and R185 promise of one bank: while its burn is in flight it has its started mark and not
its finished mark, is held SPOILT, the staging buffer holds the format tag and a good check word, and the part is not
in STARTING; a finished bank was started, and a started bank is not held BLANK. -/
abbrev State.bankLaw (s : State) (i : BankId) : Prop :=
  (s.images.burning = some i →
    (s.images.bank i).started = true ∧ (s.images.bank i).finished = false ∧ (s.images.bank i).state = .spoilt ∧
      s.images.staging.tagPresent = true ∧ s.images.staging.checkGood = true ∧ s.part ≠ .starting) ∧
  ((s.images.bank i).finished = true → (s.images.bank i).started = true) ∧
  ((s.images.bank i).started = true → (s.images.bank i).state ≠ .blank)

/-- `bankLaw` of both banks. -/
abbrev State.burnLaw (s : State) : Prop := s.bankLaw .a ∧ s.bankLaw .b

/-! ## All of it -/

/-- The laws of the lease engine. -/
abbrev Engine.lawful (e : Engine) : Prop :=
  e.countLaw ∧ e.sessionLaw ∧ e.epochLaw ∧ e.generationLaw ∧ e.liveLaw ∧ e.rangeLaw ∧ e.warnLaw ∧ e.noticeLaw ∧
  e.holderLaw ∧ e.queueLaw ∧ e.standingLaw ∧ e.lineModeLaw ∧ e.onlineLaw ∧ e.bandLaw ∧ e.fenceLaw

/-- What every state of a run from reset keeps, and what the statements take as their premise where a rule speaks
only of the part as a run can leave it. -/
abbrev State.lawful (s : State) : Prop :=
  s.engine.lawful ∧ s.configLaw ∧ s.phaseLaw ∧ s.restLaw ∧ s.clockLaw ∧ s.heartbeatLaw ∧ s.portLaw ∧ s.outputLaw ∧
  s.bufferLaw ∧ s.burnLaw

/-- A safe step: one that answers a lawful state. -/
def SafeStep (s : State) : Prop := ∃ t, step s = .next t ∧ t.lawful

end Sys2Proof.Machine
end

