-- ==== Sys2Proof/Certificates/Slice0/Obligations.lean ====
section
/-! DEFINITION. The statements for the provers. Each docstring names the rules a statement follows, and the log entry
of any clause that is the model's own choice. `State.afterClient`, `State.afterMgmt` and the tables they use stand in
Safety.lean; each of them says what changes and that nothing else does. -/

open Sys2Proof Sys2Proof.Machine

/-! ## The step and the arbiter -/

/-- A step runs the command at the front of the queue on the queue's rest. With no command waiting, ARB's next item is
taken, and with none, one reference period passes (model's choice, log 3; R64 and R65 for what a period does). -/
def Obligations.StepRunsTheFrontCommandOrIdles : Prop :=
  ∀ s : State,
    (∀ c rest, s.pending = c :: rest → step s = exec c { s with pending := rest }) ∧
    (s.pending = [] →
      (∀ c, s.handed = some c → step s = exec c s) ∧
      (s.handed = none →
        (s.running = false → step s = .next s) ∧
        (s.running = true → s.elapsed + 1 < s.divider → step s = .next { s with elapsed := s.elapsed + 1 }) ∧
        (s.running = true → s.divider ≤ s.elapsed + 1 → step s = exec (.tick s.hbPins) s)))

/-- Every command answers a next state in every state, and leaves the queue of waiting commands as it was. In part the
model's choice: that a taking ARB would not hand next, or an event without its condition, answers the state as it was is
log 2's, and the queue is the model's own (log 6). That a taking the rules give ends in an answer is R155 and R168. -/
def Obligations.EveryCommandAnswersNextAndKeepsTheQueue : Prop :=
  ∀ (c : Instr) (s : State), ∃ t, exec c s = .next t ∧ t.pending = s.pending

/-- A taking that ARB would not hand next changes nothing (model's choice, log 2); nor does a lapse, expiry or end of
quarantine that no waiting tick brings about (log 4): each with no tick handed, a lapse of what is no wait of patience 1,
an expiry of what is no lease of remaining 1 or, in a lawful part, of a record the tick leaves otherwise than REVOKED
with cause EXPIRED (stage 3 passes over a record that an exhaustion of stage 2 revoked, R72), an end of no quarantine
or, in a lawful part, of one with 2 or more to go (R73); nor a burn's end with no burn, a load's end with no load, a
restart's end outside a restart, or a release of a pin that is not asserted (log 2). -/
def Obligations.TakingsNotHandedChangeNothing : Prop :=
  ∀ s : State,
    (∀ (k : ClientKind) n, s.handed ≠ some (k.command n) → exec (k.command n) s = .next s) ∧
    (∀ k : MgmtKind, s.handed ≠ some k.command → exec k.command s = .next s) ∧
    (∀ n, s.handed ≠ some (.renewAll n) → exec (.renewAll n) s = .next s) ∧
    (s.handed ≠ some .tickTaken →
      exec .tickTaken s = .next s ∧ (∀ k, exec (.lapse k) s = .next s) ∧ (∀ k, exec (.expiry k) s = .next s) ∧
      ∀ r, exec (.quarantineEnd r) s = .next s) ∧
    (∀ k, (∀ rec, s.engine.record k = some rec → rec.standing ≠ .waiting (.ticks 1) ∧ rec.standing ≠ .waiting (.ticks 0)) →
      exec (.lapse k) s = .next s) ∧
    (∀ k, (∀ rec h, s.engine.record k = some rec → rec.standing = .held h → 2 ≤ h.remaining) →
      exec (.expiry k) s = .next s) ∧
    (s.lawful → ∀ k t, exec .tickTaken s = .next t →
      (∀ rec f, t.engine.record k = some rec → rec.standing ≠ .revoked f .expired) → exec (.expiry k) s = .next s) ∧
    (∀ r, (∀ q, (s.engine.run r).state ≠ .quarantine q) → exec (.quarantineEnd r) s = .next s) ∧
    (s.lawful → ∀ r w, (s.engine.run r).state = .quarantine w → 2 ≤ w → exec (.quarantineEnd r) s = .next s) ∧
    (s.images.burning = none → ∀ l, exec (.burnEnd l) s = .next s) ∧
    (s.load = none → exec .loadEnd s = .next s) ∧
    (s.part ≠ .starting ∨ s.restarting = false → exec .restartComplete s = .next s) ∧
    (s.resetPin = false → ∀ a i, exec (.resetPinRelease a i) s = .next s)

/-- ARB hands nothing in STARTING; otherwise an untaken tick (waiting only in SERVICE), then the management request,
then the client turn, which looks at the positions from the pointer on and takes at the first with an item its
renew-all before its request (R159, R160, R161). The pointer moves to the position after the one served at a client
turn, goes to position 0 at each kind of reset, and moves at nothing else (R161, R162). -/
def Obligations.ArbiterHandsInOrderAndMovesThePointer : Prop :=
  (∀ s : State,
    (∀ n, ((s.heartbeat n).renewalPending = true → s.clientItem n = some (.renewAll n)) ∧
      ((s.heartbeat n).renewalPending = false →
        (∀ q, (s.port n).standing = .queued q → s.clientItem n = some (q.kind.command n)) ∧
        ((∀ q, (s.port n).standing ≠ .queued q) → s.clientItem n = none))) ∧
    (s.part = .starting → s.handed = none) ∧
    (s.part = .service → 0 < s.untaken → s.handed = some .tickTaken) ∧
    (s.part ≠ .starting → (s.part ≠ .service ∨ s.untaken = 0) →
      (∀ q, s.mport.standing = .queued q → s.handed = some q.kind.command) ∧
      ((∀ q, s.mport.standing ≠ .queued q) →
        (∀ (i : Fin 6) c, (∀ j, j < i → s.clientItem (s.pointer + j) = none) →
          s.clientItem (s.pointer + i) = some c → s.handed = some c) ∧
        ((∀ n, s.clientItem n = none) → s.handed = none)))) ∧
  ∀ (c : Instr) (s t : State), exec c s = .next t →
    ((∀ a i, c ≠ .powerOnReset a i) → c ≠ .resetPinAssert → c ≠ .serviceReset →
      (t.pointer = s.pointer ∧ ∀ n, s.clientItem n = some c → s.handed ≠ some c) ∨
      ∃ n, s.handed = some c ∧ s.clientItem n = some c ∧ t.pointer = n + 1) ∧
    ((∃ a i, c = .powerOnReset a i) ∨ c = .resetPinAssert ∨ (c = .serviceReset ∧ s.handed = some c) → t.pointer = 0)

/-! ## Frames and ports -/

/-- The frame checks of each port accept exactly the frames that R149 lays out for a kind of the port with a length the
kind accepts, and read kind, epoch and arguments back as they were sent; of any other frame the first check of R150's
table that fails gives the answer, at the client ports and at MPORT (R149, R150, R164). The check byte is R149's CRC-8,
the kinds have the codes and accepted lengths of 12.2, a response and its statuses are laid out and coded as 12.3 gives,
and numbers go most significant byte first (R191, R192). -/
def Obligations.FrameChecksAcceptExactlyTheFramesOfR149 : Prop :=
  (∀ (bytes : List Byte) (q : Request ClientKind),
    checkClientFrame bytes = .request q ↔
      bytes = frame q.kind.code q.epoch q.args ∧ q.kind.accepts q.args.length = true) ∧
  (∀ (bytes : List Byte) (q : Request MgmtKind),
    checkMgmtFrame bytes = .request q ↔
      bytes = frame q.kind.code q.epoch q.args ∧ q.kind.accepts q.args.length = true) ∧
  (∀ bytes, checkedInOrder ClientKind.code ClientKind.accepts bytes (checkClientFrame bytes)) ∧
  (∀ bytes, checkedInOrder MgmtKind.code MgmtKind.accepts bytes (checkMgmtFrame bytes)) ∧
  (∀ (kind epoch : Byte) (args : List Byte),
    frame kind epoch args =
      [kind, epoch, byte args.length] ++ args ++ [crc8 ([kind, epoch, byte args.length] ++ args)]) ∧
  (crc8 [] = 0 ∧
    ∀ (l : List Byte) (b : Byte),
      let shift (c : Byte) : Byte := if c.getLsbD 7 then (c <<< 1) ^^^ 0x07 else c <<< 1
      crc8 (l ++ [b]) = shift (shift (shift (shift (shift (shift (shift (shift (crc8 l ^^^ b))))))))) ∧
  (∀ (k : ClientKind) (n : Nat), (k.code, k.accepts n) =
    match k with
    | .openSession => (0x01, decide (n = 0))
    | .closeSession => (0x02, decide (n = 0))
    | .status => (0x03, decide (n = 0))
    | .setHeartbeat => (0x04, decide (n = 1))
    | .acquire => (0x10, decide (n = 7 ∨ n = 9))
    | .renew => (0x11, decide (n = 2 ∨ n = 4))
    | .release => (0x12, decide (n = 2))
    | .cancel => (0x13, decide (n = 2))
    | .scan => (0x14, decide (n = 0))
    | .ack => (0x15, decide (n = 3))
    | .queryLease => (0x20, decide (n = 2))
    | .queryResource => (0x21, decide (n = 1))
    | .checkFence => (0x22, decide (n = 5))) ∧
  (∀ (k : MgmtKind) (n : Nat), (k.code, k.accepts n) =
    match k with
    | .queryLease => (0x20, decide (n = 2))
    | .queryResource => (0x21, decide (n = 1))
    | .checkFence => (0x22, decide (n = 5))
    | .defineResource => (0x40, decide (n = 7))
    | .readDefinition => (0x41, decide (n = 1))
    | .setProfile => (0x42, decide (n = 1))
    | .readProfile => (0x43, decide (n = 1))
    | .setQuota => (0x44, decide (n = 2))
    | .setDivider => (0x45, decide (n = 2))
    | .bar => (0x48, decide (n = 1))
    | .unbar => (0x49, decide (n = 1))
    | .forceRevoke => (0x4A, decide (n = 2))
    | .lift => (0x4B, decide (n = 1))
    | .takeOffline => (0x4C, decide (n = 2))
    | .bringOnline => (0x4D, decide (n = 1))
    | .enterMaintenance => (0x50, decide (n = 0))
    | .leaveMaintenance => (0x51, decide (n = 0))
    | .enterSafe => (0x52, decide (n = 0))
    | .serviceReset => (0x53, decide (n = 0))
    | .partStatus => (0x54, decide (n = 1))
    | .querySession => (0x55, decide (n = 1))
    | .capture => (0x60, decide (n = 0))
    | .writeStaging => (0x61, decide (3 ≤ n ∧ n ≤ 12))
    | .readStaging => (0x62, decide (n = 3))
    | .burn => (0x63, decide (n = 1))
    | .bankStatus => (0x64, decide (n = 0))) ∧
  (∀ (args : List Byte) (i : Nat),
    argByte args i = (args.getD i 0).toNat ∧ argWord args i = 256 * argByte args i + argByte args (i + 1) ∧
    argLong args i = 65536 * argWord args i + argWord args (i + 2)) ∧
  (∀ n : Nat, byte n = BitVec.ofNat 8 n ∧ bytes2 n = [byte (n / 256), byte n] ∧
    bytes4 n = [byte (n / 256 ^ 3), byte (n / 256 ^ 2), byte (n / 256), byte n]) ∧
  (∀ (overlap priorDiscarded : Bool) (kind : Byte) (a : Answer),
    let flags : Byte := match priorDiscarded, overlap with
      | false, false => 0
      | false, true => 1
      | true, false => 2
      | true, true => 3
    let body : List Byte := [a.status.code, flags, kind, byte (5 + a.content.length)] ++ a.content
    response overlap priorDiscarded kind a = body ++ [crc8 body] ∧ (Answer.bare a.status).content = []) ∧
  ∀ st : Status, st.code =
    match st with
    | .ok => 0x00
    | .granted => 0x01
    | .queued => 0x02
    | .started => 0x03
    | .none => 0x04
    | .current => 0x05
    | .staleFence => 0x06
    | .revoked => 0x07
    | .lapsed => 0x08
    | .fenceSpent => 0x09
    | .inUse => 0x0A
    | .contended => 0x0B
    | .noResource => 0x0C
    | .offline => 0x0D
    | .mode => 0x0E
    | .held => 0x0F
    | .quota => 0x10
    | .busyResource => 0x11
    | .queueFull => 0x12
    | .tableFull => 0x13
    | .stale => 0x14
    | .notHolder => 0x15
    | .wrongState => 0x16
    | .notOpen => 0x17
    | .staleSession => 0x18
    | .barred => 0x19
    | .maintenance => 0x1A
    | .safe => 0x1B
    | .badFrame => 0x20
    | .badCheck => 0x21
    | .badKind => 0x22
    | .badLength => 0x23
    | .badArg => 0x24
    | .badProfile => 0x25
    | .bankUsed => 0x26
    | .busy => 0x27

/-- The end of a request transaction that LINK serves: the port goes as R152's table gives for its state and the
outcome of the checks, the part drove filler in every byte position (R148), and nothing else changed. A select passed
over for another changes nothing (R147), nor does one that was active while a reset took effect (R151), one that clocks
no whole byte (R147), or any while the reset pin is asserted (R151); a FETCH header makes the transaction a fetch (R148).
How the select stood is the command's operand (log 13). -/
def Obligations.RequestTransactionActsByThePortState : Prop :=
  ∀ (n : Client) (stray : Fin 8) (s : State),
    (∀ header rest, s.resetPin = false → header ≠ 0xA5 →
      ∃ p', (s.port n).deliversTo header (checkClientFrame (header :: rest)) p' ∧
        exec (.requestTransaction n .served (header :: rest) stray) s =
          .next { s with ports := Table.put s.ports n p'
                         clientData := List.replicate (rest.length + 1) 0xFF }) ∧
    (∀ bytes, exec (.requestTransaction n .passedOver bytes stray) s = .next s) ∧
    (∀ bytes, exec (.requestTransaction n .cutByReset bytes stray) s = .next s) ∧
    (∀ select, exec (.requestTransaction n select [] stray) s = .next s) ∧
    (∀ select bytes, s.resetPin = true → exec (.requestTransaction n select bytes stray) s = .next s) ∧
    ∀ select rest, exec (.requestTransaction n select (0xA5 :: rest) stray) s =
      exec (.fetch n select (rest.length + 1) stray) s

/-- A fetch that LINK serves drives filler under the header, then the port-state byte and what R154's table gives,
then filler, and empties the port exactly when the last response byte was driven; nothing else changes. A select passed
over for another (R147) or active while a reset took effect (R151) changes nothing, and so does one that clocks no whole
byte, and any while the reset pin is asserted. -/
def Obligations.FetchDrivesThePortAndEmptiesItWhenRead : Prop :=
  ∀ (n : Client) (clocked : Nat) (stray : Fin 8) (s : State),
    (s.resetPin = false → 1 ≤ clocked →
      ∃ bytes p', (s.port n).fetchesTo (clocked - 1) bytes p' ∧
        exec (.fetch n .served clocked stray) s =
          .next { s with
            ports := Table.put s.ports n p'
            clientData := (0xFF :: bytes ++ List.replicate clocked 0xFF).take clocked }) ∧
    exec (.fetch n .passedOver clocked stray) s = .next s ∧
    exec (.fetch n .cutByReset clocked stray) s = .next s ∧
    (s.resetPin = true ∨ clocked = 0 → ∀ select, exec (.fetch n select clocked stray) s = .next s)

/-- MPORT acknowledges its own address only, and none while the reset pin is asserted (R163). A write delivers its
bytes as one frame, with the management kinds, by R152's table; a write without a byte changes no port (R163, R164).
A read fetches as R165's table gives. A transaction that was in progress while a reset took effect is ignored to its
stop and changes nothing (R166; that it was is the command's operand, log 13). The bytes driven and the acknowledgement
are kept in fields of the model's own (log 16). -/
def Obligations.ManagementBusWritesDeliverAndReadsFetch : Prop :=
  ∀ (address : BitVec 7) (s : State),
    let own := s.resetPin = false ∧ address.toNat = 0x4C + s.addressStraps.val
    let whole : BusStart := { address := address, cut := false }
    (own →
      (∀ header rest, ∃ p', s.mport.deliversTo header (checkMgmtFrame (header :: rest)) p' ∧
        exec (.managementWrite whole (header :: rest)) s =
          .next { s with mport := p', mgmtAck := true, mgmtData := [] }) ∧
      exec (.managementWrite whole []) s = .next { s with mgmtAck := true, mgmtData := [] } ∧
      ∀ clocked, ∃ bytes p', s.mport.fetchesTo clocked bytes p' ∧
        exec (.managementRead whole clocked) s =
          .next { s with mport := p', mgmtAck := true
                         mgmtData := (bytes ++ List.replicate clocked 0xFF).take clocked }) ∧
    (¬ own →
      (∀ bytes, exec (.managementWrite whole bytes) s = .next { s with mgmtAck := false, mgmtData := [] }) ∧
      ∀ clocked, exec (.managementRead whole clocked) s = .next { s with mgmtAck := false, mgmtData := [] }) ∧
    (∀ bytes, exec (.managementWrite { address := address, cut := true } bytes) s = .next s) ∧
    ∀ clocked, exec (.managementRead { address := address, cut := true } clocked) s = .next s

/-! ## Gating, sessions and handles -/

/-- R156's table: a client request that the part state refuses is answered with that status alone and changes no
state; every other passes to its further checks. In SERVICE every kind passes. -/
def Obligations.PartStateGatingOfClientRequests : Prop :=
  ∀ (n : Client) (q : Request ClientKind) (s : State),
    s.handed = some (q.kind.command n) → (s.port n).standing = .queued q →
    let resting := s.part = .maintenance ∧
      q.kind ∈ [ClientKind.openSession, .acquire, .renew, .release, .cancel, .setHeartbeat]
    let safe := s.part = .safe ∧ q.kind ≠ .status
    (resting → exec (q.kind.command n) s = .next (s.afterClient n q s.engine (.bare .maintenance))) ∧
    (safe → exec (q.kind.command n) s = .next (s.afterClient n q s.engine (.bare .safe))) ∧
    (¬ resting → ¬ safe → q.kind.gate s.part = none)

/-- R119's table: a request that the gating passes, other than OPEN and STATUS, is refused by the session's state and
epoch in this order, with the status alone and no change of state; otherwise it passes to its own checks. -/
def Obligations.SessionAndEpochChecks : Prop :=
  ∀ (n : Client) (q : Request ClientKind) (s : State),
    s.handed = some (q.kind.command n) → (s.port n).standing = .queued q → q.kind.gate s.part = none →
    (q.kind = .openSession ∨ q.kind = .status → s.admits n q) ∧
    (q.kind ≠ .openSession → q.kind ≠ .status →
      let x := s.engine.session n
      (x.state = .closed → exec (q.kind.command n) s = .next (s.afterClient n q s.engine (.bare .notOpen))) ∧
      (x.state = .barred → exec (q.kind.command n) s = .next (s.afterClient n q s.engine (.bare .barred))) ∧
      (x.state = .opened → q.epoch.toNat ≠ x.epoch →
        exec (q.kind.command n) s = .next (s.afterClient n q s.engine (.bare .staleSession))) ∧
      (x.state = .opened → q.epoch.toNat = x.epoch → s.admits n q))

/-- R168's table: a management request that is not available in the part state is answered WRONG_STATE in SERVICE,
MAINTENANCE in MAINTENANCE and SAFE in SAFE, with the status alone, and changes no state. Every other is available. -/
def Obligations.AvailabilityOfManagementRequests : Prop :=
  ∀ (q : Request MgmtKind) (s : State),
    s.handed = some q.kind.command → s.mport.standing = .queued q →
    let service := s.part = .service ∧
      q.kind ∈ [MgmtKind.defineResource, .setProfile, .setQuota, .setDivider, .leaveMaintenance]
    let maintenance := s.part = .maintenance ∧ q.kind = .enterMaintenance
    let safe := s.part = .safe ∧
      q.kind ∈ [MgmtKind.defineResource, .setProfile, .setQuota, .setDivider, .bar, .unbar, .forceRevoke, .lift,
        .takeOffline, .bringOnline, .enterMaintenance, .leaveMaintenance, .enterSafe]
    (service → exec q.kind.command s = .next (s.afterMgmt q s.engine (.bare .wrongState))) ∧
    (maintenance → exec q.kind.command s = .next (s.afterMgmt q s.engine (.bare .maintenance))) ∧
    (safe → exec q.kind.command s = .next (s.afterMgmt q s.engine (.bare .safe))) ∧
    (¬ service → ¬ maintenance → ¬ safe → s.admitsMgmt q)

/-- R20: a request that names a stale handle is answered STALE, and a client's request that names a current handle of
another client's record NOT_HOLDER, with the status alone and no change of state. RENEW and ACK make their argument
check first; the management controller makes no NOT_HOLDER check. A handle is carried as its slot in the upper six bits
of two bytes and its generation in the lower ten (R191). -/
def Obligations.HandleChecksAnswerStaleAndNotHolder : Prop :=
  (∀ (n : Client) (q : Request ClientKind) (s : State), s.admits n q →
    (q.kind = .release ∨ q.kind = .cancel ∨ q.kind = .queryLease ∨
      (q.kind = .renew ∧ ¬ (q.args.length = 4 ∧ argWord q.args 2 = 0)) ∨ (q.kind = .ack ∧ argByte q.args 2 < 32)) →
    (s.engine.stale (argWord q.args 0) →
      exec (q.kind.command n) s = .next (s.afterClient n q s.engine (.bare .stale))) ∧
    ∀ k rec, s.engine.reaches (argWord q.args 0) k rec → rec.client ≠ n →
      exec (q.kind.command n) s = .next (s.afterClient n q s.engine (.bare .notHolder))) ∧
  (∀ (q : Request MgmtKind) (s : State), s.admitsMgmt q → (q.kind = .forceRevoke ∨ q.kind = .queryLease) →
    s.engine.stale (argWord q.args 0) →
    exec q.kind.command s = .next (s.afterMgmt q s.engine (.bare .stale))) ∧
  (∀ w, (handleSlot w).val = w / 1024 % 64 ∧ handleGeneration w = w % 1024) ∧
  ∀ (k : SlotId) g, handleBytes k g = bytes2 (1024 * k.val + g % 1024)

/-! ## Sessions and heartbeats -/

/-- OPEN (R120, R121): a CLOSED session opens with the following epoch and its heartbeat state cleared; an OPEN one is
first ended as R122 gives: its records leave their holder sets and queues and are freed in slot order, then admission
runs for each resource they claimed. On a lawful part the client then owns no record and no quarantine has begun. A
BARRED one is answered BARRED. -/
def Obligations.OpenStartsASessionWithTheNextEpoch : Prop :=
  ∀ (n : Client) (q : Request ClientKind) (s : State), q.kind = .openSession → s.admits n q →
    let x := s.engine.session n
    let epoch := if x.epoch < 255 then x.epoch + 1 else 1
    let answer : Answer := { status := .ok, content := [byte epoch] }
    let cleared : State :=
      { s with heartbeats := Table.put s.heartbeats n { selection := .off, previous := .invalid, renewalPending := false } }
    (x.state = .closed →
      exec (.openSession n) s =
        .next (cleared.afterClient n q (s.engine.setSession n { x with state := .opened, epoch := epoch }) answer)) ∧
    (x.state = .barred → exec (.openSession n) s = .next (s.afterClient n q s.engine (.bare .barred))) ∧
    (x.state = .opened →
      let ended := s.engine.sessionEnded n
      let e := ended.setSession n { ended.session n with state := .opened, epoch := epoch }
      exec (.openSession n) s = .next (cleared.afterClient n q e answer) ∧
      (s.lawful →
        e.session n = { state := .opened, epoch := epoch, quota := x.quota, count := 0 } ∧
        (∀ m, m ≠ n → e.session m = s.engine.session m) ∧
        (∀ k, (e.record k).all fun rec => decide (rec.client ≠ n)) ∧
        ∀ r w, (e.run r).state = .quarantine w → (s.engine.run r).state = .quarantine w))

/-- CLOSE (R122, R123): the client's records leave their holder sets and queues and are freed in slot order, then
admission runs once for each resource they claimed, the session is CLOSED with its epoch and quota kept, and its
heartbeat state is cleared. On a lawful part the client then owns no record, each of its slots has the next generation,
and no quarantine has begun. -/
def Obligations.CloseFreesEveryRecordOfTheClient : Prop :=
  ∀ (n : Client) (q : Request ClientKind) (s : State), q.kind = .closeSession → s.admits n q →
    let ended := s.engine.sessionEnded n
    let e := ended.setSession n { ended.session n with state := .closed }
    exec (.closeSession n) s =
        .next (State.afterClient
          { s with heartbeats :=
              Table.put s.heartbeats n { selection := .off, previous := .invalid, renewalPending := false } }
          n q e (.bare .ok)) ∧
    (s.lawful →
      e.session n = { s.engine.session n with state := .closed, count := 0 } ∧
      (∀ m, m ≠ n → e.session m = s.engine.session m) ∧
      (∀ k, (e.record k).all fun rec => decide (rec.client ≠ n)) ∧
      (∀ k rec, s.engine.record k = some rec → rec.client = n →
        (e.slot k).generation = ((s.engine.slot k).generation + 1) % 1024) ∧
      ∀ r w, (e.run r).state = .quarantine w → (s.engine.run r).state = .quarantine w)

/-- STATUS (R158): the part state, the session state, the record count and quota, the selection, and whether the
client owns a record with something unseen, in the codes of 12.4; it changes nothing. -/
def Obligations.StatusReportsTheClientsStanding : Prop :=
  (PartState.service.code = 1 ∧ PartState.maintenance.code = 2 ∧ PartState.safe.code = 3) ∧
  (SessionState.closed.code = 0 ∧ SessionState.opened.code = 1 ∧ SessionState.barred.code = 2) ∧
  (Selection.off.code = 0 ∧ Selection.rising.code = 1 ∧ Selection.falling.code = 2 ∧ Selection.both.code = 3) ∧
  ∀ (n : Client) (q : Request ClientKind) (s : State), q.kind = .status → s.admits n q →
    ∃ unseen : Bool,
      (unseen = true ↔
        ∃ k, ((s.engine.record k).any fun rec => decide (rec.client = n) && decide (rec.unseen ≠ .empty)) = true) ∧
      exec (.status n) s = .next (s.afterClient n q s.engine
        { status := .ok
          content := [s.part.code, (s.engine.session n).state.code, byte (s.engine.session n).count,
            byte (s.engine.session n).quota, (s.heartbeat n).selection.code, if unseen then 1 else 0] })

/-- SET HEARTBEAT (R127): the selection is taken, the previous sample becomes invalid only where the selection
differs, and the pending flag is kept; an unassigned code is answered BAD_ARG. -/
def Obligations.SetHeartbeatTakesTheSelection : Prop :=
  ∀ (n : Client) (q : Request ClientKind) (s : State), q.kind = .setHeartbeat → s.admits n q →
    let x := s.heartbeat n
    (∀ sel : Selection, argByte q.args 0 = sel.code.toNat →
      exec (.setHeartbeat n) s =
        .next (State.afterClient
          { s with
            heartbeats := Table.put s.heartbeats n
              { selection := sel
                previous := if sel = x.selection then x.previous else .invalid
                renewalPending := x.renewalPending } }
          n q s.engine { status := .ok, content := [sel.code] })) ∧
    (4 ≤ argByte q.args 0 → exec (.setHeartbeat n) s = .next (s.afterClient n q s.engine (.bare .badArg)))

/-- RENEW_ALL (R131, R161): the flag is cleared and the turn used; with the session OPEN each held line-renewable
record of the client that R78 does not refuse is renewed by R79 with its own asked term, and nothing else in the lease
engine changes; without, the engine is unchanged. -/
def Obligations.RenewAllRenewsTheLineRenewableLeases : Prop :=
  ∀ (n : Client) (s : State), s.handed = some (.renewAll n) →
    ∃ e, exec (.renewAll n) s =
        .next { s with
          engine := e
          pointer := n + 1
          heartbeats := Table.put s.heartbeats n { s.heartbeat n with renewalPending := false } }.settle ∧
      ((s.engine.session n).state ≠ .opened → e = s.engine) ∧
      ((s.engine.session n).state = .opened →
        e.resources = s.engine.resources ∧ e.profiles = s.engine.profiles ∧ e.sessions = s.engine.sessions ∧
        e.faults = s.engine.faults ∧
        ∀ k, (e.slot k).generation = (s.engine.slot k).generation ∧
          (s.engine.record k = none → e.record k = none) ∧
          ∀ rec, s.engine.record k = some rec →
            (∀ h, rec.standing = .held h → rec.client = n → rec.lineRenewable = true →
              let p := s.engine.profileOf rec.resource
              let x := s.engine.run rec.resource
              let left := min rec.asked (p.ceiling x.band)
              let st := stateByLead (s.engine.defn rec.resource).lead left
              let contended := x.queue ≠ [] ∧ p.limit x.band ≠ 0 ∧ p.limit x.band ≤ h.renewals
              e.record k = some (if contended then rec else
                { rec with
                  standing := .held { state := st, remaining := left, fence := h.fence
                                      renewals := if h.renewals < 255 then h.renewals + 1 else h.renewals }
                  unseen := { rec.unseen with
                    warned := rec.unseen.warned || (decide (h.state = .active) && decide (st = .warned)) } })) ∧
            ((∀ h, rec.standing ≠ .held h) ∨ rec.client ≠ n ∨ rec.lineRenewable = false →
              e.record k = some rec))

/-- BAR (R124, R101, R102) ends every record of the client in slot order, an EXCLUSIVE lease putting its resource into
QUARANTINE where its definition has one, then runs admission for each resource they claimed, makes the session BARRED
with epoch and quota kept, and answers the two counts. On a lawful part the client then owns no record and those
resources rest. UNBAR (R125) makes a BARRED session CLOSED and changes nothing else. -/
def Obligations.BarEndsTheClientsRecordsAndUnbarLiftsIt : Prop :=
  ∀ (q : Request MgmtKind) (s : State), s.admitsMgmt q →
    (q.kind = .bar →
      (6 ≤ argByte q.args 0 → exec .bar s = .next (s.afterMgmt q s.engine (.bare .badArg))) ∧
      ∀ n : Client, n.val = argByte q.args 0 →
        ((s.engine.session n).state = .barred → exec .bar s = .next (s.afterMgmt q s.engine (.bare .wrongState))) ∧
        ((s.engine.session n).state ≠ .barred →
          let ended := s.engine.sessionBarred n
          let e := ended.setSession n { ended.session n with state := .barred }
          exec .bar s =
              .next (State.afterMgmt
                { s with heartbeats :=
                    Table.put s.heartbeats n { selection := .off, previous := .invalid, renewalPending := false } }
                q e
                { status := .ok
                  content :=
                    [byte (s.engine.countWhere fun rec => decide (rec.client = n) && rec.isHeld),
                     byte (s.engine.countWhere fun rec => decide (rec.client = n) && !rec.isHeld)] }) ∧
          (s.lawful →
            e.session n = { s.engine.session n with state := .barred, count := 0 } ∧
            (∀ m, m ≠ n → e.session m = s.engine.session m) ∧
            (∀ k, (e.record k).all fun rec => decide (rec.client ≠ n)) ∧
            ∀ k rec, s.engine.record k = some rec → rec.client = n → rec.isHeld = true → rec.mode = .exclusive →
              (s.engine.defn rec.resource).quarantine ≠ 0 →
              (e.run rec.resource).state = .quarantine (s.engine.defn rec.resource).quarantine))) ∧
    (q.kind = .unbar →
      (6 ≤ argByte q.args 0 → exec .unbar s = .next (s.afterMgmt q s.engine (.bare .badArg))) ∧
      ∀ n : Client, n.val = argByte q.args 0 →
        ((s.engine.session n).state = .barred →
          exec .unbar s = .next (s.afterMgmt q
            (s.engine.setSession n { s.engine.session n with state := .closed }) (.bare .ok))) ∧
        ((s.engine.session n).state ≠ .barred →
          exec .unbar s = .next (s.afterMgmt q s.engine (.bare .wrongState))))

/-! ## ACQUIRE -/

/-- What ACQUIRE reads of its argument bytes: resource, mode, term, patience, line-renewable, and at length 9 a tag
(12.2, R191). The order of its refusals: BAD_ARG (R49), then R51's eight steps, HELD carrying the handle and state of
the client's live record (R52). A refused ACQUIRE changes no state. -/
def Obligations.AcquireIsRefusedInTheOrderOfR51 : Prop :=
  ∀ (n : Client) (q : Request ClientKind) (s : State), q.kind = .acquire → s.admits n q →
    let e := s.engine
    let refused (a : Answer) : Prop := exec (.acquire n) s = .next (s.afterClient n q e a)
    let b (i : Nat) : Nat := (q.args.getD i 0).toNat
    (∀ a, acquireArgs q.args = some a ↔
      a.resource = b 0 ∧ (b 1 = match a.mode with
        | .exclusive => 0
        | .shared => 1) ∧
      a.term = 256 * b 2 + b 3 ∧ a.term ≠ 0 ∧ a.patience = 256 * b 4 + b 5 ∧
      b 6 = (if a.lineRenewable then 1 else 0) ∧
      a.tag = (if q.args.length = 9 then some (256 * b 7 + b 8) else none)) ∧
    (256 * b 2 + b 3 = 0 ∨ 2 ≤ b 1 ∨ 2 ≤ b 6 → refused (.bare .badArg)) ∧
    ∀ a, acquireArgs q.args = some a →
      (32 ≤ a.resource → refused (.bare .noResource)) ∧
      ∀ r : ResourceId, r.val = a.resource →
        let x := e.run r
        let offline := (e.defn r).defined = false ∨ x.state = .offline
        let mode := a.mode = .shared ∧ (e.defn r).kind = .line
        let quota := (e.session n).quota ≤ (e.session n).count
        let busy := a.patience = 0 ∧ ¬ e.atOnce r a.mode
        let full := ¬ e.atOnce r a.mode ∧ (e.defn r).queueLimit ≤ x.queue.length
        (offline → refused (.bare .offline)) ∧
        (¬ offline → mode → refused (.bare .mode)) ∧
        (¬ offline → ¬ mode →
          (∀ k rec, e.liveAt n r k → (∀ j, j < k → ¬ e.liveAt n r j) → e.record k = some rec →
            refused { status := .held, content := handleBytes k (e.slot k).generation ++ [rec.standing.code] }) ∧
          ((∀ k, ¬ e.liveAt n r k) →
            (quota → refused (.bare .quota)) ∧
            (¬ quota → busy → refused (.bare .busyResource)) ∧
            (¬ quota → ¬ busy → full → refused (.bare .queueFull)) ∧
            (¬ quota → ¬ busy → ¬ full → (∀ k, e.record k ≠ none) → refused (.bare .tableFull))))

/-- R54 and R42: an ACQUIRE that passes R51 on a resource grantable at once creates a held record in the lowest FREE
slot, under the ceiling of band 0, with the raised fence counter as its fence; it is answered GRANTED. -/
def Obligations.AcquireGrantsAtOnce : Prop :=
  ∀ (n : Client) (q : Request ClientKind) (s : State) (a : AcquireArgs) (r : ResourceId) (k : SlotId),
    q.kind = .acquire → s.admits n q → acquireArgs q.args = some a → a.resource = r.val →
    s.engine.acquirable n r a.mode → s.engine.atOnce r a.mode → s.engine.lowestFree k →
    (s.engine.run r).fence < Config.fenceMax →
    let e := s.engine
    let x := e.run r
    let left := min a.term (e.profileOf r).c0
    let h : Held := { state := stateByLead (e.defn r).lead left, remaining := left, fence := x.fence + 1, renewals := 0 }
    let made : Record :=
      { client := n, resource := r, mode := a.mode, asked := a.term, tag := a.tag, lineRenewable := a.lineRenewable
        unseen := .empty, standing := .held h }
    let state : ResourceState := match a.mode with
      | .exclusive => .exclusive
      | .shared => .shared
    let e' := ((e.setRun r { x with state := state, holders := x.holders + 1, fence := x.fence + 1 }).setSlot k
        { generation := (e.slot k).generation, record := some made }).setSession n
        { e.session n with count := (e.session n).count + 1 }
    exec (.acquire n) s = .next (s.afterClient n q e'
      { status := .granted
        content := handleBytes k (e.slot k).generation ++ [(Standing.held h).code] ++ bytes2 left ++
          bytes4 (x.fence + 1) })

/-- R55 and R95: an ACQUIRE that passes R51 on a resource not grantable at once creates a WAITING record at the tail of
the queue; then the band rule runs, with its squeeze; then an EXCLUSIVE head makes a SHARED resource DRAINING. It is
answered QUEUED with its position, the new depth. -/
def Obligations.AcquireJoinsTheQueue : Prop :=
  ∀ (n : Client) (q : Request ClientKind) (s : State) (a : AcquireArgs) (r : ResourceId) (k : SlotId),
    q.kind = .acquire → s.admits n q → acquireArgs q.args = some a → a.resource = r.val →
    s.engine.acquirable n r a.mode → ¬ s.engine.atOnce r a.mode → a.patience ≠ 0 →
    (s.engine.run r).queue.length < (s.engine.defn r).queueLimit → s.engine.lowestFree k →
    let e := s.engine
    let x := e.run r
    let made : Record :=
      { client := n, resource := r, mode := a.mode, asked := a.term, tag := a.tag, lineRenewable := a.lineRenewable
        unseen := .empty, standing := .waiting (if a.patience = 65535 then .unbounded else .ticks a.patience) }
    let joined := (((e.setSlot k { generation := (e.slot k).generation, record := some made }).setSession n
        { e.session n with count := (e.session n).count + 1 }).setRun r { x with queue := x.queue ++ [k] }).bandRule r
    let e' := if x.queue = [] ∧ x.state = .shared ∧ a.mode = .exclusive then
        joined.setRun r { joined.run r with state := .draining } else joined
    exec (.acquire n) s = .next (s.afterClient n q e'
      { status := .queued
        content := handleBytes k (e.slot k).generation ++ [byte (x.queue.length + 1)] ++ bytes2 a.patience })

/-- R34 with R33, steps 2 to 5: an ACQUIRE that would grant at once under a full fence counter creates no record, is
answered FENCE_SPENT, and exhausts the resource. -/
def Obligations.AcquireOnAFullFenceCounterExhaustsTheResource : Prop :=
  ∀ (n : Client) (q : Request ClientKind) (s : State) (a : AcquireArgs) (r : ResourceId) (k : SlotId),
    q.kind = .acquire → s.admits n q → acquireArgs q.args = some a → a.resource = r.val →
    s.engine.acquirable n r a.mode → s.engine.atOnce r a.mode → s.engine.record k = none →
    Config.fenceMax ≤ (s.engine.run r).fence →
    exec (.acquire n) s = .next (s.afterClient n q (s.engine.exhausted r) (.bare .fenceSpent))

/-! ## RENEW, RELEASE, CANCEL and FORCE REVOKE -/

/-- RENEW on the client's own current handle (R77). A held record is refused CONTENDED exactly when the three
conditions of R78 hold, and is left as it was; otherwise R79 renews it. The answer carries state, remaining and
renewals (R80). A wait is answered WRONG_STATE, a tombstone its status and cause, and neither changes. -/
def Obligations.RenewFollowsTheRenewalRule : Prop :=
  ∀ (n : Client) (q : Request ClientKind) (s : State), q.kind = .renew → s.admits n q →
    (q.args.length = 4 → argWord q.args 2 = 0 → exec (.renew n) s = .next (s.afterClient n q s.engine (.bare .badArg))) ∧
    (¬ (q.args.length = 4 ∧ argWord q.args 2 = 0) →
      ∀ k rec, s.engine.reaches (argWord q.args 0) k rec → rec.client = n →
        (∀ h, rec.standing = .held h →
          let p := s.engine.profileOf rec.resource
          let x := s.engine.run rec.resource
          let contended := x.queue ≠ [] ∧ p.limit x.band ≠ 0 ∧ p.limit x.band ≤ h.renewals
          let carried (g : Held) : List Byte := (Standing.held g).code :: bytes2 g.remaining ++ [byte g.renewals]
          (contended →
            exec (.renew n) s = .next (s.afterClient n q s.engine { status := .contended, content := carried h })) ∧
          (¬ contended →
            let asked := if q.args.length = 4 then argWord q.args 2 else rec.asked
            let left := min asked (p.ceiling x.band)
            let st := stateByLead (s.engine.defn rec.resource).lead left
            let g : Held := { state := st, remaining := left, fence := h.fence
                              renewals := if h.renewals < 255 then h.renewals + 1 else h.renewals }
            exec (.renew n) s = .next (s.afterClient n q
              (s.engine.setSlot k
                { generation := (s.engine.slot k).generation
                  record := some { rec with
                    asked := asked
                    standing := .held g
                    unseen := { rec.unseen with
                      warned := rec.unseen.warned || (decide (h.state = .active) && decide (st = .warned)) } } })
              { status := .ok, content := carried g }))) ∧
        (∀ p, rec.standing = .waiting p → exec (.renew n) s = .next (s.afterClient n q s.engine (.bare .wrongState))) ∧
        (∀ f c, rec.standing = .revoked f c →
          exec (.renew n) s = .next (s.afterClient n q s.engine { status := .revoked, content := [c.code] })) ∧
        (∀ c, rec.standing = .lapsed c →
          exec (.renew n) s = .next (s.afterClient n q s.engine { status := .lapsed, content := [c.code] })))

/-- RELEASE on the client's own current handle: a held record leaves its holder set as R43 gives, is freed as R6
gives, and admission runs (R81); a REVOKED tombstone is answered and freed, and any other record is refused
WRONG_STATE (R82). -/
def Obligations.ReleaseEndsAHeldLease : Prop :=
  ∀ (n : Client) (q : Request ClientKind) (s : State) (k : SlotId) (rec : Record),
    q.kind = .release → s.admits n q → s.engine.reaches (argWord q.args 0) k rec → rec.client = n →
    (∀ h, rec.standing = .held h →
      exec (.release n) s = .next (s.afterClient n q
        (((s.engine.left rec.resource rec.mode).vacated k rec).admission rec.resource) (.bare .ok))) ∧
    (∀ f c, rec.standing = .revoked f c →
      exec (.release n) s =
        .next (s.afterClient n q (s.engine.vacated k rec) { status := .revoked, content := [c.code] })) ∧
    ((∃ p, rec.standing = .waiting p) ∨ (∃ c, rec.standing = .lapsed c) →
      exec (.release n) s = .next (s.afterClient n q s.engine (.bare .wrongState)))

/-- CANCEL on the client's own current handle: a WAITING record leaves its queue, the band rule runs, the record is
freed and admission runs (R61); a LAPSED tombstone is answered and freed, and any other record is refused WRONG_STATE
(R62). -/
def Obligations.CancelWithdrawsAWait : Prop :=
  ∀ (n : Client) (q : Request ClientKind) (s : State) (k : SlotId) (rec : Record),
    q.kind = .cancel → s.admits n q → s.engine.reaches (argWord q.args 0) k rec → rec.client = n →
    (∀ p, rec.standing = .waiting p →
      exec (.cancel n) s = .next (s.afterClient n q
        (((s.engine.unqueued rec.resource k).vacated k rec).admission rec.resource) (.bare .ok))) ∧
    (∀ c, rec.standing = .lapsed c →
      exec (.cancel n) s =
        .next (s.afterClient n q (s.engine.vacated k rec) { status := .lapsed, content := [c.code] })) ∧
    ((∃ h, rec.standing = .held h) ∨ (∃ f c, rec.standing = .revoked f c) →
      exec (.cancel n) s = .next (s.afterClient n q s.engine (.bare .wrongState)))

/-- FORCE REVOKE on a current handle: a held record is revoked with cause FORCED (R100), its resource entering
QUARANTINE where R101 says so, else admission running at once (R109); a WAITING record lapses with cause FORCED, the
band rule before and admission after it (R110); a tombstone is refused WRONG_STATE. -/
def Obligations.ForceRevokeEndsARecord : Prop :=
  ∀ (q : Request MgmtKind) (s : State) (k : SlotId) (rec : Record),
    q.kind = .forceRevoke → s.admitsMgmt q → s.engine.reaches (argWord q.args 0) k rec →
    let e := s.engine
    let kept (x : Record) : Slot := { generation := (e.slot k).generation, record := some x }
    (∀ h, rec.standing = .held h →
      let gone := (e.setSlot k (kept (rec.revokedBy .forced))).left rec.resource rec.mode
      let rest := (e.defn rec.resource).quarantine
      let e' := if rec.mode = .exclusive ∧ rest ≠ 0 then
          gone.setRun rec.resource { gone.run rec.resource with state := .quarantine rest }
        else gone.admission rec.resource
      exec .forceRevoke s = .next (s.afterMgmt q e' { status := .ok, content := 0x04 :: bytes4 h.fence })) ∧
    (∀ p, rec.standing = .waiting p →
      let lapsed : Record := { rec with standing := .lapsed .forced, unseen := { rec.unseen with lapsed := true } }
      exec .forceRevoke s = .next (s.afterMgmt q
        (((e.unqueued rec.resource k).setSlot k (kept lapsed)).admission rec.resource)
        { status := .ok, content := [0x05] })) ∧
    ((∃ f c, rec.standing = .revoked f c) ∨ (∃ c, rec.standing = .lapsed c) →
      exec .forceRevoke s = .next (s.afterMgmt q e (.bare .wrongState)))

/-! ## SCAN, ACK and the queries -/

/-- SCAN (R141) reports the client's lowest-numbered record with something unseen and how many it has, or NONE; it
changes nothing. The single byte of NONE is log 11's. -/
def Obligations.ScanReportsTheLowestNotice : Prop :=
  ∀ (n : Client) (q : Request ClientKind) (s : State), q.kind = .scan → s.admits n q →
    let noticed (rec : Record) : Bool := decide (rec.client = n) && decide (rec.unseen ≠ .empty)
    (∀ k rec, s.engine.record k = some rec → noticed rec = true →
      (∀ j, j < k → (s.engine.record j).any noticed = false) →
      exec (.scan n) s = .next (s.afterClient n q s.engine
        { status := .ok
          content := handleBytes k (s.engine.slot k).generation ++
            [rec.standing.code, byte rec.resource.val, rec.unseen.code, rec.standing.causeByte,
              byte (s.engine.countWhere noticed)] })) ∧
    ((∀ k, (s.engine.record k).any noticed = false) →
      exec (.scan n) s = .next (s.afterClient n q s.engine { status := .none, content := [0] }))

/-- ACK on the client's own current handle (R143, R144): a tombstone whose terminal member is named is freed; else the
named members go and the record stays. The answer carries state and cause as found, what remains, and the freed mark;
a record without a cause carries 0x00 (log 10). A set code with a bit above bit 4 is answered BAD_ARG. -/
def Obligations.AckRemovesNoticesAndFreesTombstones : Prop :=
  ∀ (n : Client) (q : Request ClientKind) (s : State), q.kind = .ack → s.admits n q →
    (32 ≤ argByte q.args 2 → exec (.ack n) s = .next (s.afterClient n q s.engine (.bare .badArg))) ∧
    ∀ k rec, argByte q.args 2 < 32 → s.engine.reaches (argWord q.args 0) k rec → rec.client = n →
      let names (i : Nat) : Bool := (argByte q.args 2).testBit i
      let terminal := ((∃ f c, rec.standing = .revoked f c) ∧ names 3 = true) ∨
        ((∃ c, rec.standing = .lapsed c) ∧ names 4 = true)
      let left : Unseen :=
        { granted := rec.unseen.granted && !names 0, warned := rec.unseen.warned && !names 1
          squeezed := rec.unseen.squeezed && !names 2, revoked := rec.unseen.revoked && !names 3
          lapsed := rec.unseen.lapsed && !names 4 }
      (terminal → exec (.ack n) s = .next (s.afterClient n q (s.engine.vacated k rec)
        { status := .ok, content := [rec.standing.code, rec.standing.causeByte, 0, 1] })) ∧
      (¬ terminal → exec (.ack n) s = .next (s.afterClient n q
        (s.engine.setSlot k { generation := (s.engine.slot k).generation, record := some { rec with unseen := left } })
        { status := .ok, content := [rec.standing.code, rec.standing.causeByte, left.code, 0] }))

/-- QUERY LEASE returns the record in the layout and codes of 12.4, for a client its own and for the management
controller any record, and changes nothing (R21, R22). That bits 3 to 7 of byte 3, which 12.4 does not assign, are sent
0 is the model's choice (log 22). -/
def Obligations.QueryLeaseReturnsTheRecord : Prop :=
  (∀ x : Standing, x.code =
    (match x with
    | .waiting _ => 1
    | .held h => if h.state = .active then 2 else 3
    | .revoked _ _ => 4
    | .lapsed _ => 5) ∧
    x.causeByte =
    match x with
    | .waiting _ => 0
    | .held _ => 0
    | .revoked _ c => c.code
    | .lapsed c => c.code) ∧
  (Cause.expired.code = 1 ∧ Cause.forced.code = 2 ∧ Cause.offline.code = 3 ∧ Cause.patience.code = 5) ∧
  (∀ u : Unseen, u.code = byte ((if u.granted then 1 else 0) + (if u.warned then 2 else 0) +
    (if u.squeezed then 4 else 0) + (if u.revoked then 8 else 0) + (if u.lapsed then 16 else 0))) ∧
  ∀ (s : State) (k : SlotId) (rec : Record) (w : Nat), s.engine.reaches w k rec →
    let always : List Byte :=
      [rec.standing.code, byte rec.client.val, byte rec.resource.val,
        byte ((if rec.mode = .shared then 1 else 0) + (if rec.lineRenewable then 2 else 0) +
          (if rec.tag.isSome then 4 else 0))] ++
      bytes2 rec.asked ++ bytes2 (rec.tag.getD 0) ++ [rec.unseen.code, rec.standing.causeByte]
    let rest : List Byte := match rec.standing with
      | .waiting (.ticks p) => bytes2 p ++ [byte ((s.engine.run rec.resource).queue.idxOf k + 1)]
      | .waiting .unbounded => [0xFF, 0xFF] ++ [byte ((s.engine.run rec.resource).queue.idxOf k + 1)]
      | .held h => bytes2 h.remaining ++ bytes4 h.fence ++ [byte h.renewals]
      | .revoked f _ => bytes4 f
      | .lapsed _ => []
    let answer : Answer := { status := .ok, content := always ++ rest }
    (∀ (q : Request ClientKind), q.kind = .queryLease → s.admits rec.client q → w = argWord q.args 0 →
      exec (.queryLease (.client rec.client)) s = .next (s.afterClient rec.client q s.engine answer)) ∧
    ∀ (q : Request MgmtKind), q.kind = .queryLease → s.admitsMgmt q → w = argWord q.args 0 →
      exec (.queryLease .management) s = .next (s.afterMgmt q s.engine answer)

/-- QUERY RESOURCE returns the definition and the standing of the resource in the layout of 12.4 (R36, R37). CHECK
FENCE answers CURRENT exactly when a held record on the resource carries the fence, with the fence counter either way
(R114, R115). Both answer NO_RESOURCE above 31 and change nothing, from either port. That bits 3 to 7 of content byte
15, which 12.4 does not assign, are sent 0 is the model's choice (log 22). -/
def Obligations.QueryResourceAndCheckFenceAnswerForTheResource : Prop :=
  (∀ x : ResourceState, x.code =
    match x with
    | .offline => 0
    | .free => 1
    | .exclusive => 2
    | .shared => 3
    | .draining => 4
    | .quarantine _ => 5) ∧
  (LineLevel.low.code = 0 ∧ LineLevel.high.code = 1 ∧ LineLevel.undriven.code = 2) ∧
  (∀ d : Definition, d.bytes =
    [byte ((if d.defined then 1 else 0) + (if d.kind = .line then 2 else 0) + (if d.safeHigh then 4 else 0) +
        (if d.startOnline then 8 else 0)),
      byte d.capacity, byte d.lead, byte d.quarantine, byte d.queueLimit, byte d.profile.val]) ∧
  ∀ (s : State) (number : Nat) (fence : Nat),
    let resource (answers : Answer → Prop) : Prop :=
      (32 ≤ number → answers (.bare .noResource)) ∧
      ∀ r : ResourceId, r.val = number →
        let x := s.engine.run r
        let rest := match x.state with
          | .quarantine w => byte w
          | _ => 0
        let level := if h : r.val < 16 then (Table.get s.lines ⟨r.val, h⟩).code else 3
        answers
          { status := .ok
            content := (s.engine.defn r).bytes ++
              [x.state.code, byte x.holders, byte x.queue.length, byte x.band, rest] ++ bytes4 x.fence ++
              [byte ((if x.spent then 1 else 0) + 2 * level)] }
    let check (answers : Answer → Prop) : Prop :=
      (32 ≤ number → answers (.bare .noResource)) ∧
      ∀ r : ResourceId, r.val = number →
        let carried := ∃ k rec h, s.engine.record k = some rec ∧ rec.resource = r ∧ rec.standing = .held h ∧ h.fence = fence
        (carried → answers { status := .current, content := bytes4 (s.engine.run r).fence }) ∧
        (¬ carried → answers { status := .staleFence, content := bytes4 (s.engine.run r).fence })
    (∀ (n : Client) (q : Request ClientKind), s.admits n q → number = argByte q.args 0 →
      (q.kind = .queryResource → resource fun a =>
        exec (.queryResource (.client n)) s = .next (s.afterClient n q s.engine a)) ∧
      (q.kind = .checkFence → fence = argLong q.args 1 → check fun a =>
        exec (.checkFence (.client n)) s = .next (s.afterClient n q s.engine a))) ∧
    ∀ (q : Request MgmtKind), s.admitsMgmt q → number = argByte q.args 0 →
      (q.kind = .queryResource → resource fun a =>
        exec (.queryResource .management) s = .next (s.afterMgmt q s.engine a)) ∧
      (q.kind = .checkFence → fence = argLong q.args 1 → check fun a =>
        exec (.checkFence .management) s = .next (s.afterMgmt q s.engine a))

/-! ## Configuration and resources -/

/-- DEFINE RESOURCE by R174's table: a definition that is not valid BAD_ARG, a number above 31 NO_RESOURCE, a resource
that is not OFFLINE WRONG_STATE, otherwise stored, with capacity 1 for a LINE, and returned. READ DEFINITION returns
the stored one. Two readings are the model's own: that a LINE definition for a number above 31 is answered NO_RESOURCE
(log 18), and that READ DEFINITION answers the six bytes of 12.5 (log 21). -/
def Obligations.DefineResourceStoresAValidDefinition : Prop :=
  ∀ (q : Request MgmtKind) (s : State), s.admitsMgmt q →
    let a := argByte q.args
    let line := (a 1).testBit 1
    let valid := a 1 < 16 ∧ ¬ (line = true ∧ 16 ≤ a 0 ∧ a 0 < 32) ∧ (line = true ∨ (1 ≤ a 2 ∧ a 2 ≤ 6)) ∧
      (1 ≤ a 5 ∧ a 5 ≤ 63) ∧ a 6 < 4
    (q.kind = .defineResource →
      (¬ valid → exec .defineResource s = .next (s.afterMgmt q s.engine (.bare .badArg))) ∧
      (valid → 32 ≤ a 0 → exec .defineResource s = .next (s.afterMgmt q s.engine (.bare .noResource))) ∧
      ∀ r : ResourceId, r.val = a 0 →
        (valid → (s.engine.run r).state ≠ .offline →
          exec .defineResource s = .next (s.afterMgmt q s.engine (.bare .wrongState))) ∧
        (valid → (s.engine.run r).state = .offline →
          ∃ d : Definition, d.defined = (a 1).testBit 0 ∧ d.kind = (if line then .line else .token) ∧
            d.safeHigh = (a 1).testBit 2 ∧ d.startOnline = (a 1).testBit 3 ∧
            d.capacity = (if line then 1 else a 2) ∧ d.lead = a 3 ∧ d.quarantine = a 4 ∧ d.queueLimit = a 5 ∧
            d.profile.val = a 6 ∧
            exec .defineResource s =
              .next (s.afterMgmt q (s.engine.setDefn r d) { status := .ok, content := d.bytes }))) ∧
    (q.kind = .readDefinition →
      (32 ≤ a 0 → exec .readDefinition s = .next (s.afterMgmt q s.engine (.bare .noResource))) ∧
      ∀ r : ResourceId, r.val = a 0 →
        exec .readDefinition s = .next (s.afterMgmt q s.engine { status := .ok, content := (s.engine.defn r).bytes }))

/-- SET PROFILE reads the profile's entry of the staging buffer: a number above 3 or a value out of range BAD_ARG, a
broken ordering BAD_PROFILE (R87); otherwise the profile is replaced and the band rule runs, in resource order, for
each resource that names it and is not OFFLINE (R96). READ PROFILE returns the stored one (R175); that it does so in
the sixteen bytes of 12.5 is the model's reading (log 21). -/
def Obligations.SetProfileReplacesTheProfileAndRerunsTheBands : Prop :=
  ∀ (q : Request MgmtKind) (s : State), s.admitsMgmt q →
    (q.kind = .setProfile →
      (4 ≤ argByte q.args 0 → exec .setProfile s = .next (s.afterMgmt q s.engine (.bare .badArg))) ∧
      ∀ p : Fin 4, p.val = argByte q.args 0 →
        let at_ (i : Nat) : Nat := (s.images.staging.read (258 + 16 * p.val + i)).toNat
        let x : Profile :=
          { t1 := at_ 0, t2 := at_ 1, t3 := at_ 2, h := at_ 3
            c0 := 256 * at_ 4 + at_ 5, c1 := 256 * at_ 6 + at_ 7, c2 := 256 * at_ 8 + at_ 9, c3 := 256 * at_ 10 + at_ 11
            l0 := at_ 12, l1 := at_ 13, l2 := at_ 14, l3 := at_ 15 }
        let ranged := (1 ≤ x.t1 ∧ x.t1 ≤ 63) ∧ (1 ≤ x.t2 ∧ x.t2 ≤ 63) ∧ (1 ≤ x.t3 ∧ x.t3 ≤ 63) ∧ x.h ≤ 7 ∧
          1 ≤ x.c0 ∧ 1 ≤ x.c1 ∧ 1 ≤ x.c2 ∧ 1 ≤ x.c3
        let ordered := x.t1 < x.t2 ∧ x.t2 < x.t3 ∧ x.c1 ≤ x.c0 ∧ x.c2 ≤ x.c1 ∧ x.c3 ≤ x.c2
        (¬ ranged → exec .setProfile s = .next (s.afterMgmt q s.engine (.bare .badArg))) ∧
        (ranged → ¬ ordered → exec .setProfile s = .next (s.afterMgmt q s.engine (.bare .badProfile))) ∧
        (ranged → ordered → exec .setProfile s = .next (s.afterMgmt q
          (((List.finRange 32).filter fun r =>
              decide ((s.engine.defn r).profile = p) && decide ((s.engine.run r).state ≠ .offline)).foldl
            Engine.bandRule (s.engine.setProfile p x)) (.bare .ok)))) ∧
    (q.kind = .readProfile →
      (4 ≤ argByte q.args 0 → exec .readProfile s = .next (s.afterMgmt q s.engine (.bare .badArg))) ∧
      ∀ p : Fin 4, p.val = argByte q.args 0 →
        exec .readProfile s = .next (s.afterMgmt q s.engine
          { status := .ok
            content :=
              let x := Table.get s.engine.profiles p
              [byte x.t1, byte x.t2, byte x.t3, byte x.h] ++ bytes2 x.c0 ++ bytes2 x.c1 ++ bytes2 x.c2 ++ bytes2 x.c3 ++
                [byte x.l0, byte x.l1, byte x.l2, byte x.l3] }))

/-- R90 and R94: from a band of 0 to 3 under a valid profile, a run of the band rule ends in the one band R90 gives. It
rises step by step, into each band whose entry depth T + H the depth has reached, and stops at the first it has not;
where it takes no rise it falls step by step, out of each band whose threshold T the depth is below, and stops at the
first it is not below; between the two the band stays. So the law of R89 holds. A run that rose squeezes every held
record of the resource above the new ceiling, and only such a run; nothing else changes. -/
def Obligations.BandRuleEndsInTheLawAndSqueezesOnARise : Prop :=
  ∀ (e : Engine) (r : ResourceId), (e.profileOf r).valid = true → (e.run r).band ≤ 3 →
    let e' := e.bandRule r
    let p := e.profileOf r
    let d := (e.run r).queue.length
    let b' := (e'.run r).band
    let rose := (e.run r).band < b'
    b' ≤ 3 ∧ (1 ≤ b' → p.threshold b' ≤ d) ∧ (b' ≤ 2 → d < p.threshold (b' + 1) + p.h) ∧
    (∀ c, (e.run r).band < c → c ≤ b' → p.threshold c + p.h ≤ d) ∧
    (∀ c, b' < c → c ≤ (e.run r).band → d < p.threshold c) ∧
    (¬ rose → (1 ≤ (e.run r).band → p.threshold (e.run r).band ≤ d) → b' = (e.run r).band) ∧
    ((e.run r).band < 3 → p.threshold ((e.run r).band + 1) + p.h ≤ d → rose) ∧
    ((e.run r).band < 3 → d < p.threshold ((e.run r).band + 1) + p.h → b' ≤ (e.run r).band) ∧
    e'.run r = { e.run r with band := b' } ∧ (∀ r', r' ≠ r → e'.run r' = e.run r') ∧ (∀ r', e'.defn r' = e.defn r') ∧
    e'.profiles = e.profiles ∧ e'.sessions = e.sessions ∧ e'.faults = e.faults ∧
    ∀ k, (e'.slot k).generation = (e.slot k).generation ∧ (e.record k = none → e'.record k = none) ∧
      ∀ rec, e.record k = some rec →
        (∀ h, rec.standing = .held h → rec.resource = r → rose → p.ceiling b' < h.remaining →
          let st := if h.state = .warned then .warned else stateByLead (e.defn r).lead (p.ceiling b')
          e'.record k = some { rec with
            standing := .held { h with state := st, remaining := p.ceiling b' }
            unseen := { rec.unseen with
              squeezed := true
              warned := rec.unseen.warned || (decide (h.state = .active) && decide (st = .warned)) } }) ∧
        ((∀ h, rec.standing = .held h → rec.resource = r → rose → h.remaining ≤ p.ceiling b') →
          e'.record k = some rec)

/-- R57, row by row, in every state: what admission for a resource does by the resource state, the holder count and the
head of the queue, with R58's grant in place and R33's exhaustion where the fence counter is full; a row marked "again"
is followed by admission on what the row left. Then, of a SHARED resource with a holder (R29) and a queue of its own
resource's waiters (R44), that admission comes to a stop, run again changes nothing, and touches no other resource and no
record that names another, frees no slot and moves no session (R56). -/
def Obligations.AdmissionSettlesItsResourceAlone : Prop :=
  ∀ (e : Engine) (r : ResourceId),
    let x := e.run r
    let e' := e.admission r
    let turned (st : ResourceState) : Engine := e.setRun r { x with state := st }
    let again := (turned (if 0 < x.holders then .shared else .free)).admission r
    (x.state = .offline ∨ (∃ q, x.state = .quarantine q) ∨ x.state = .exclusive → e' = e) ∧
    ((∀ k rec, ¬ e.headed r k rec) →
      (x.state = .draining → e' = again) ∧
      (x.state = .free ∨ x.state = .shared → e' = e)) ∧
    (∀ k rec, e.headed r k rec → rec.mode = .exclusive →
      (x.state = .draining → 0 < x.holders → e' = e) ∧
      (x.state = .draining → x.holders = 0 → e' = e.granted r k rec) ∧
      (x.state = .free → e' = e.granted r k rec) ∧
      (x.state = .shared → e' = turned .draining)) ∧
    (∀ k rec, e.headed r k rec → rec.mode = .shared →
      (x.state = .draining → e' = again) ∧
      (x.state = .free ∨ x.state = .shared → x.holders < (e.defn r).capacity →
        e' = (e.granted r k rec).admission r) ∧
      (x.state = .shared → (e.defn r).capacity ≤ x.holders → e' = e)) ∧
    ((x.state = .shared → 0 < x.holders) →
      (∀ k, k ∈ x.queue → (e.record k).all fun rec => decide (rec.resource = r)) →
      e'.admission r = e' ∧ (∀ r', r' ≠ r → e.sameResource e' r') ∧ e'.defn r = e.defn r ∧ e'.sessions = e.sessions ∧
      e'.profiles = e.profiles ∧
      ∀ k, (e'.slot k).generation = (e.slot k).generation ∧ (e'.record k).isSome = (e.record k).isSome ∧
        (((e.record k).all fun rec => decide (rec.resource ≠ r)) = true → e'.record k = e.record k))

/-- SET QUOTA (R126) and SET DIVIDER (R66, R175): in range the value is set, otherwise BAD_ARG and nothing changes. -/
def Obligations.SetQuotaAndSetDivider : Prop :=
  ∀ (q : Request MgmtKind) (s : State), s.admitsMgmt q →
    (q.kind = .setQuota →
      (6 ≤ argByte q.args 0 ∨ argByte q.args 1 = 0 ∨ 64 < argByte q.args 1 →
        exec .setQuota s = .next (s.afterMgmt q s.engine (.bare .badArg))) ∧
      ∀ n : Client, n.val = argByte q.args 0 → 1 ≤ argByte q.args 1 → argByte q.args 1 ≤ 64 →
        exec .setQuota s = .next (s.afterMgmt q
          (s.engine.setSession n { s.engine.session n with quota := argByte q.args 1 }) (.bare .ok))) ∧
    (q.kind = .setDivider →
      (argWord q.args 0 < 16 → exec .setDivider s = .next (s.afterMgmt q s.engine (.bare .badArg))) ∧
      (16 ≤ argWord q.args 0 →
        exec .setDivider s = .next (State.afterMgmt { s with divider := argWord q.args 0 } q s.engine
          { status := .ok, content := bytes2 (argWord q.args 0) })))

/-- LIFT by R107's table: a resource in QUARANTINE becomes FREE and admission runs, and the answer carries the state
admission left. -/
def Obligations.LiftEndsAQuarantine : Prop :=
  ∀ (q : Request MgmtKind) (s : State), q.kind = .lift → s.admitsMgmt q →
    (32 ≤ argByte q.args 0 → exec .lift s = .next (s.afterMgmt q s.engine (.bare .noResource))) ∧
    ∀ r : ResourceId, r.val = argByte q.args 0 →
      ((∀ w, (s.engine.run r).state ≠ .quarantine w) →
        exec .lift s = .next (s.afterMgmt q s.engine (.bare .wrongState))) ∧
      ∀ w, (s.engine.run r).state = .quarantine w →
        let e' := (s.engine.setRun r { s.engine.run r with state := .free }).admission r
        (∀ v, (e'.run r).state ≠ .quarantine v) ∧
        exec .lift s = .next (s.afterMgmt q e' { status := .ok, content := [(e'.run r).state.code] })

/-- TAKE OFFLINE by R176's table, with R112's effects where it is taken, and BRING ONLINE by R177's table: the resource
becomes FREE with its fence counter and spent mark kept, and admission grants nothing. -/
def Obligations.TakeOfflineAndBringOnline : Prop :=
  ∀ (q : Request MgmtKind) (s : State), s.admitsMgmt q →
    let e := s.engine
    let replies (a : Answer) : Prop := exec q.kind.command s = .next (s.afterMgmt q e a)
    (q.kind = .takeOffline →
      (2 ≤ argByte q.args 1 → replies (.bare .badArg)) ∧
      (argByte q.args 1 < 2 → 32 ≤ argByte q.args 0 → replies (.bare .noResource)) ∧
      ∀ r : ResourceId, r.val = argByte q.args 0 → argByte q.args 1 < 2 →
        let held := e.countWhere fun rec => decide (rec.resource = r) && rec.isHeld
        let waiting := e.countWhere fun rec => decide (rec.resource = r) && rec.isWaiting
        ((e.run r).state = .offline → replies (.bare .wrongState)) ∧
        ((e.run r).state ≠ .offline → argByte q.args 1 = 0 → held + waiting ≠ 0 →
          replies { status := .inUse, content := [byte held, byte waiting] }) ∧
        ((e.run r).state ≠ .offline → argByte q.args 1 = 1 ∨ held + waiting = 0 →
          exec .takeOffline s = .next (s.afterMgmt q (e.downed r (e.run r).spent)
            { status := .ok, content := [byte held, byte waiting] }))) ∧
    (q.kind = .bringOnline →
      (32 ≤ argByte q.args 0 → replies (.bare .noResource)) ∧
      ∀ r : ResourceId, r.val = argByte q.args 0 →
        ((e.run r).state ≠ .offline → replies (.bare .wrongState)) ∧
        ((e.run r).state = .offline → (e.defn r).defined = false → replies (.bare .offline)) ∧
        ((e.run r).state = .offline → (e.defn r).defined = true → (e.run r).spent = true → replies (.bare .fenceSpent)) ∧
        ((e.run r).state = .offline → (e.defn r).defined = true → (e.run r).spent = false →
          exec .bringOnline s = .next (s.afterMgmt q
            (e.setRun r { state := .free, holders := 0, band := 0, fence := (e.run r).fence, spent := false, queue := [] })
            (.bare .ok))))

/-! ## Part states, resets and the load -/

/-- ENTER MAINTENANCE freezes TGEN, discards its period, the untaken ticks, the samples and the pending flags, and
changes nothing else; LEAVE MAINTENANCE starts a fresh period (R169, R65, R68, R129, R130). -/
def Obligations.MaintenanceFreezesLeaseTime : Prop :=
  ∀ (q : Request MgmtKind) (s : State), s.admitsMgmt q →
    (q.kind = .enterMaintenance →
      exec .enterMaintenance s = .next (State.afterMgmt
        { s with
          part := .maintenance, running := false, elapsed := 0, untaken := 0
          heartbeats := Table.tab fun n =>
            { selection := (s.heartbeat n).selection, previous := .invalid, renewalPending := false } }
        q s.engine (.bare .ok))) ∧
    (q.kind = .leaveMaintenance →
      exec .leaveMaintenance s = .next (State.afterMgmt
        { s with part := .service, running := true, elapsed := 0 } q s.engine (.bare .ok)))

/-- ENTER SAFE (R170): every record freed, every session CLOSED, every resource that is not OFFLINE made FREE, the
heartbeats cleared, TGEN frozen and the untaken ticks gone; the answer carries how many records and sessions. -/
def Obligations.EnterSafeGivesUpEveryClaim : Prop :=
  ∀ (q : Request MgmtKind) (s : State), q.kind = .enterSafe → s.admitsMgmt q →
    exec .enterSafe s = .next (State.afterMgmt
      { s with
        part := .safe, running := false, elapsed := 0, untaken := 0
        heartbeats := Table.fill 6 { selection := .off, previous := .invalid, renewalPending := false } }
      q s.engine.cleared
      { status := .ok
        content := [byte ((List.finRange 64).countP fun k => (s.engine.record k).isSome),
          byte ((List.finRange 6).countP fun n => decide ((s.engine.session n).state ≠ .closed))] })

/-- SERVICE RESET (R171, R166): the answer is placed in MPORT first and survives; the lease engine is cleared with its
configuration, fence counters and spent marks kept; ports, pointer, ticks and heartbeats are cleared, TGEN frozen with
its divider kept, and the part is STARTING; a burn in flight is cut and BURN_SPOILT set (R185). RESTART_COMPLETE makes
the part SERVICE with a fresh period (R167). -/
def Obligations.ServiceResetRestartsWithoutALoad : Prop :=
  (∀ (q : Request MgmtKind) (s : State), q.kind = .serviceReset → s.admitsMgmt q →
    ∃ images free, exec .serviceReset s =
      .next { s with
        engine := { s.engine.cleared with
          faults := { s.engine.faults with
            burnSpoilt := s.engine.faults.burnSpoilt || s.images.burning.isSome } }
        heartbeats := Table.fill 6 { selection := .off, previous := .invalid, renewalPending := false }
        untaken := 0, pointer := 0, running := false, elapsed := 0
        ports := Table.fill 6 { standing := .idle, overlap := false, priorDiscarded := false }
        mport :=
          { standing := .ready (response s.mport.overlap s.mport.priorDiscarded 0x53 (.bare .ok))
            overlap := false, priorDiscarded := false }
        part := .starting, restarting := true, load := none, images := images, freeIndex := free }.settle ∧
      images.staging = s.images.staging ∧ images.source = s.images.source ∧ images.burning = none ∧
      ∀ i, (images.bank i).started = (s.images.bank i).started ∧ (images.bank i).finished = (s.images.bank i).finished ∧
        (s.images.burning ≠ some i → images.bank i = s.images.bank i) ∧
        (s.images.burning = some i → (images.bank i).state = .spoilt)) ∧
  ∀ s : State, s.part = .starting → s.restarting = true →
    exec .restartComplete s =
      .next { s with part := .service, running := true, elapsed := 0, restarting := false }.settle

/-- PART STATUS returns the part state, the fault summary as it stood, the divider, whether a burn is in flight and the
number of slots in use, and then clears the flags named (R173); a set bit above bit 4 is answered BAD_ARG. QUERY
SESSION returns a session record and heartbeat state (R178). -/
def Obligations.PartStatusAndQuerySessionReport : Prop :=
  ∀ (q : Request MgmtKind) (s : State), s.admitsMgmt q →
    let v := argByte q.args 0
    let f := s.engine.faults
    let one (b : Bool) (n : Nat) : Nat := if b then n else 0
    (q.kind = .partStatus →
      (32 ≤ v → exec .partStatus s = .next (s.afterMgmt q s.engine (.bare .badArg))) ∧
      (v < 32 → exec .partStatus s = .next (s.afterMgmt q
        { s.engine with faults :=
            { tickSlip := f.tickSlip && !v.testBit 0, imageBad := f.imageBad && !v.testBit 1
              imageSkipped := f.imageSkipped && !v.testBit 2, burnSpoilt := f.burnSpoilt && !v.testBit 3
              fenceSpent := if v.testBit 4 then none else f.fenceSpent } }
        { status := .ok
          content := [s.part.code,
            byte (one f.tickSlip 1 + one f.imageBad 2 + one f.imageSkipped 4 + one f.burnSpoilt 8 +
              one f.fenceSpent.isSome 16),
            byte ((f.fenceSpent.map fun r => r.val).getD 0)] ++ bytes2 s.divider ++
            [if s.images.burning.isSome then 1 else 0,
              byte ((List.finRange 64).countP fun k => (s.engine.record k).isSome)] }))) ∧
    (q.kind = .querySession →
      (6 ≤ v → exec .querySession s = .next (s.afterMgmt q s.engine (.bare .badArg))) ∧
      ∀ n : Client, n.val = v →
        exec .querySession s = .next (s.afterMgmt q s.engine
          { status := .ok
            content := [(s.engine.session n).state.code, byte (s.engine.session n).epoch,
              byte (s.engine.session n).quota, byte (s.engine.session n).count, (s.heartbeat n).selection.code,
              if (s.heartbeat n).renewalPending then 1 else 0, if Table.get s.attention n then 1 else 0] }))

/-- POWER_ON_RESET leaves the part as right after reset with the straps sampled, its banks kept with their states
derived, and a load begun from the first source of R187's table that applies; a burn in flight leaves its bank SPOILT
and no other trace (R185, R190). RESET_PIN_ASSERT clears the same blocks, keeping generations (freed slots advance),
epochs, fence counters, spent marks and configuration (R23, R31, R133); RESET_PIN_RELEASE samples the straps and begins
the load. A bank's state is derived by R179's table. Configuration before the load ends, at either reset, and the outputs
the model keeps, are logs 6, 7 and 16. -/
def Obligations.PowerOnAndResetPinBeginALoad : Prop :=
  (∀ b : Bank, b.derive =
    if b.started = false ∧ b.finished = false then .blank
    else if b.started = true ∧ b.finished = true ∧ b.content.checkGood = true ∧ b.content.tagPresent = true then .written
    else .spoilt) ∧
  (∀ (a b : BankState),
    chooseSource true a b = .factorySkipped ∧ chooseSource false a .written = .bankB ∧
    (b ≠ .written → chooseSource false .written b = .bankA) ∧ chooseSource false .blank .blank = .factoryUnprogrammed ∧
    (a ≠ .written → b ≠ .written → ¬ (a = .blank ∧ b = .blank) → chooseSource false a b = .factorySpoilt)) ∧
  (∀ (straps : Fin 4) (skip : Bool) (s : State), s.burnLaw →
    ∃ x : ImageStore,
      exec (.powerOnReset straps skip) s =
        .next { State.reset with
          addressStraps := straps, images := x
          load := some (chooseSource skip (x.bank .a).state (x.bank .b).state)
          hbPins := s.hbPins, pending := s.pending
          freeIndex := if s.images.burning.isSome then s.freeIndex + 1 else s.freeIndex } ∧
      x.staging = [] ∧ x.burning = none ∧
      ∀ i, (x.bank i).started = (s.images.bank i).started ∧ (x.bank i).finished = (s.images.bank i).finished ∧
        (x.bank i).state = (x.bank i).derive ∧
        (s.images.burning ≠ some i → (x.bank i).content = (s.images.bank i).content) ∧
        (s.images.burning = some i → (x.bank i).state = .spoilt)) ∧
  (∀ (s : State), ∃ x : ImageStore,
    exec .resetPinAssert s =
      .next { s with
        engine := { s.engine with
          slots := Table.tab fun k =>
            { generation := if s.engine.record k = none then (s.engine.slot k).generation
                else ((s.engine.slot k).generation + 1) % 1024
              record := none }
          sessions := Table.tab fun n => { s.engine.session n with state := .closed, count := 0 }
          resources := Table.tab fun r =>
            { defn := s.engine.defn r
              run := { state := .offline, holders := 0, band := 0, fence := (s.engine.run r).fence
                       spent := (s.engine.run r).spent, queue := [] } }
          faults := .clear }
        heartbeats := Table.fill 6 { selection := .off, previous := .invalid, renewalPending := false }
        untaken := 0, pointer := 0, running := false, elapsed := 0
        ports := Table.fill 6 { standing := .idle, overlap := false, priorDiscarded := false }
        mport := { standing := .idle, overlap := false, priorDiscarded := false }
        lines := Table.fill 16 .undriven, attention := Table.fill 6 false
        part := .starting, restarting := false, load := none, resetPin := true, images := x
        freeIndex := if s.images.burning.isSome then s.freeIndex + 1 else s.freeIndex } ∧
    x.staging = [] ∧ x.burning = none ∧ x.source = s.images.source ∧
    ∀ i, (x.bank i).started = (s.images.bank i).started ∧ (x.bank i).finished = (s.images.bank i).finished ∧
      (s.images.burning ≠ some i → x.bank i = s.images.bank i) ∧
      (s.images.burning = some i → (x.bank i).state = .spoilt)) ∧
  ∀ (straps : Fin 4) (skip : Bool) (s : State), s.resetPin = true →
    let x := { s.images with
      bankA := { s.images.bankA with state := s.images.bankA.derive }
      bankB := { s.images.bankB with state := s.images.bankB.derive } }
    exec (.resetPinRelease straps skip) s =
      .next { s with
        images := x, addressStraps := straps, resetPin := false, restarting := false
        load := some (chooseSource skip x.bankA.state x.bankB.state) }

/-- LOAD_END (R188, R189, R31, R35): each definition, profile, quota and the divider from the image, at the offsets and
in the layouts of 12.5, where it is valid by R26 and R193, by R87, or by its range, and from the factory values where it is not, or all from the factory values; each resource FREE if defined with start
online and not spent, else OFFLINE; the source reported, the flag of R187 set, and the part SERVICE with a fresh period,
or SAFE with IMAGE_BAD. -/
def Obligations.LoadEndAppliesTheConfiguration : Prop :=
  (∀ (r : ResourceId) (f : Nat → Nat),
    let line := (f 0).testBit 1
    let valid := f 0 < 16 ∧ ¬ (line = true ∧ 16 ≤ r.val) ∧ (line = true ∨ (1 ≤ f 1 ∧ f 1 ≤ 6)) ∧
      (1 ≤ f 4 ∧ f 4 ≤ 63) ∧ f 5 < 4
    (¬ valid → definitionOf r.val f = none) ∧
    (valid → ∃ d : Definition, definitionOf r.val f = some d ∧ d.defined = (f 0).testBit 0 ∧
      d.kind = (if line then .line else .token) ∧ d.safeHigh = (f 0).testBit 2 ∧ d.startOnline = (f 0).testBit 3 ∧
      d.capacity = (if line then 1 else f 1) ∧ d.lead = f 2 ∧ d.quarantine = f 3 ∧ d.queueLimit = f 4 ∧
      d.profile.val = f 5)) ∧
  (∀ f : Nat → Nat, profileOf f =
    { t1 := f 0, t2 := f 1, t3 := f 2, h := f 3
      c0 := 256 * f 4 + f 5, c1 := 256 * f 6 + f 7, c2 := 256 * f 8 + f 9, c3 := 256 * f 10 + f 11
      l0 := f 12, l1 := f 13, l2 := f 14, l3 := f 15 }) ∧
  (∀ x : Profile, x.valid = true ↔
    (1 ≤ x.t1 ∧ x.t1 < x.t2 ∧ x.t2 < x.t3 ∧ x.t3 ≤ 63) ∧ x.h ≤ 7 ∧
    (1 ≤ x.c3 ∧ x.c3 ≤ x.c2 ∧ x.c2 ≤ x.c1 ∧ x.c1 ≤ x.c0 ∧ x.c0 ≤ 65535) ∧
    x.l0 ≤ 255 ∧ x.l1 ≤ 255 ∧ x.l2 ≤ 255 ∧ x.l3 ≤ 255) ∧
  ∀ (s : State) (source : LoadSource), s.load = some source →
    let image : Option Memory := match source with
      | .bankA => some s.images.bankA.content
      | .bankB => some s.images.bankB.content
      | _ => none
    let d (r : ResourceId) : Definition :=
      match image with
      | none => .factory
      | some m => (definitionOf r.val fun i => (m.read (2 + 8 * r.val + i)).toNat).getD .factory
    let p (i : Fin 4) : Profile :=
      match image with
      | none => .factory
      | some m =>
        let x := profileOf fun j => (m.read (258 + 16 * i.val + j)).toNat
        if x.valid then x else .factory
    let quota (n : Client) : Nat :=
      match image with
      | none => 16
      | some m =>
        let v := (m.read (322 + n.val)).toNat
        if 1 ≤ v ∧ v ≤ 64 then v else 16
    let divider : Nat :=
      match image with
      | none => 1000
      | some m =>
        let v := 256 * (m.read 328).toNat + (m.read 329).toNat
        if 16 ≤ v then v else 1000
    exec .loadEnd s = .next
      { s with
        engine := { s.engine with
          resources := Table.tab fun r =>
            { defn := d r
              run := { state := if (d r).defined = true ∧ (d r).startOnline = true ∧ (s.engine.run r).spent = false
                                then .free else .offline
                       holders := 0, band := 0, fence := (s.engine.run r).fence, spent := (s.engine.run r).spent
                       queue := [] } }
          profiles := Table.tab p
          sessions := Table.tab fun n => { s.engine.session n with quota := quota n }
          faults := { s.engine.faults with
            imageSkipped := s.engine.faults.imageSkipped || decide (source = LoadSource.factorySkipped)
            imageBad := s.engine.faults.imageBad || decide (source = LoadSource.factorySpoilt) } }
        divider := divider
        images := { s.images with source := source }
        load := none
        part := if source = LoadSource.factorySpoilt then .safe else .service
        running := if source = LoadSource.factorySpoilt then s.running else true
        elapsed := if source = LoadSource.factorySpoilt then s.elapsed else 0 }.settle

/-- State.reset is the part as a power-on reset leaves it, in every value the rules state for that reset. -/
def Obligations.ResetLeavesTheStatedValues : Prop :=
  let s := State.reset
  (∀ k, s.engine.slot k = { generation := 0, record := none }) ∧
  (∀ r, s.engine.run r = { state := .offline, holders := 0, band := 0, fence := 0, spent := false, queue := [] }) ∧
  (∀ n, (s.engine.session n).state = .closed ∧ (s.engine.session n).epoch = 0 ∧ (s.engine.session n).count = 0) ∧
  s.engine.faults = { tickSlip := false, imageBad := false, imageSkipped := false, burnSpoilt := false, fenceSpent := none } ∧
  (∀ n, s.heartbeat n = { selection := .off, previous := .invalid, renewalPending := false }) ∧
  s.untaken = 0 ∧ s.pointer = 0 ∧ s.elapsed = 0 ∧ s.running = false ∧
  (∀ n, s.port n = { standing := .idle, overlap := false, priorDiscarded := false }) ∧
  s.mport = { standing := .idle, overlap := false, priorDiscarded := false } ∧
  (∀ n, Table.get s.lines n = .undriven) ∧ (∀ n, Table.get s.attention n = false) ∧
  (∀ a, s.images.staging.read a = 0) ∧ s.images.burning = none ∧ s.part = .starting

/-! ## The image store -/

/-- CAPTURE puts the configuration in force into the staging buffer (R182); WRITE STAGING writes its bytes and no
others, and READ STAGING returns the bytes it names (R181). Writes are refused BUSY during a burn, and BAD_ARG comes
first. -/
def Obligations.StagingIsCapturedWrittenAndRead : Prop :=
  ∀ (q : Request MgmtKind) (s : State), s.admitsMgmt q → s.images.staging.wf = true →
    let offset := argWord q.args 0
    (q.kind = .capture →
      (s.images.burning ≠ none → exec .capture s = .next (s.afterMgmt q s.engine (.bare .busy))) ∧
      (s.images.burning = none → exec .capture s = .next (State.afterMgmt
        { s with images := { s.images with staging := imageOf s.engine s.divider } } q s.engine (.bare .ok)))) ∧
    (q.kind = .writeStaging →
      let data := q.args.drop 2
      let bad := 512 ≤ offset ∨ 512 < offset + data.length
      (bad → exec .writeStaging s = .next (s.afterMgmt q s.engine (.bare .badArg))) ∧
      (¬ bad → s.images.burning ≠ none → exec .writeStaging s = .next (s.afterMgmt q s.engine (.bare .busy))) ∧
      (¬ bad → s.images.burning = none → ∃ m : Memory,
        exec .writeStaging s =
          .next (State.afterMgmt { s with images := { s.images with staging := m } } q s.engine (.bare .ok)) ∧
        m.wf = true ∧
        ∀ a, m.read a = if offset ≤ a ∧ a < offset + data.length then data.getD (a - offset) 0
          else s.images.staging.read a)) ∧
    (q.kind = .readStaging →
      let count := argByte q.args 2
      let bad := count = 0 ∨ 24 < count ∨ 512 < offset + count
      (bad → exec .readStaging s = .next (s.afterMgmt q s.engine (.bare .badArg))) ∧
      (¬ bad → exec .readStaging s = .next (s.afterMgmt q s.engine
        { status := .ok, content := (List.range count).map fun i => s.images.staging.read (offset + i) })))

/-- BURN by R183's table: an unassigned bank code or an absent format tag BAD_ARG, a bank that is not BLANK BANK_USED, a
burn in flight BUSY; otherwise the check word goes into the last two staging bytes, the bank gets its started mark, is
held SPOILT, and its burn is in flight; the answer is STARTED. That the bank's content stands as it was while it burns is
the model's choice (log 23). BANK STATUS (R186) reports both banks, a burning one as BURNING, the burn, the tag and the
source, in the codes of 12.4. The check word is R180's CRC-16. -/
def Obligations.BurnStartsOnABlankBank : Prop :=
  (crc16 [] = 0xFFFF ∧
    ∀ (l : List Byte) (b : Byte),
      let shift (c : BitVec 16) : BitVec 16 := if c.getLsbD 15 then (c <<< 1) ^^^ 0x1021 else c <<< 1
      crc16 (l ++ [b]) =
        shift (shift (shift (shift (shift (shift (shift (shift (crc16 l ^^^ BitVec.ofNat 16 (256 * b.toNat)))))))))) ∧
  (BankState.blank.code = 0 ∧ BankState.written.code = 1 ∧ BankState.spoilt.code = 2) ∧
  (LoadSource.bankA.code = 0 ∧ LoadSource.bankB.code = 1 ∧ LoadSource.factoryUnprogrammed.code = 2 ∧
    LoadSource.factorySkipped.code = 3 ∧ LoadSource.factorySpoilt.code = 4) ∧
  ∀ (q : Request MgmtKind) (s : State), s.admitsMgmt q → s.burnLaw → s.images.staging.wf = true →
    let x := s.images
    let tag := x.staging.read 0 = 0x4D ∧ x.staging.read 1 = 0x57
    (q.kind = .burn →
      (2 ≤ argByte q.args 0 → exec .burn s = .next (s.afterMgmt q s.engine (.bare .badArg))) ∧
      ∀ i : BankId, argByte q.args 0 = (match i with | .a => 0 | .b => 1) →
        (¬ tag → exec .burn s = .next (s.afterMgmt q s.engine (.bare .badArg))) ∧
        (tag → (x.bank i).state ≠ .blank → exec .burn s = .next (s.afterMgmt q s.engine (.bare .bankUsed))) ∧
        (tag → (x.bank i).state = .blank → x.burning ≠ none →
          exec .burn s = .next (s.afterMgmt q s.engine (.bare .busy))) ∧
        (tag → (x.bank i).state = .blank → x.burning = none →
          ∃ m : Memory, m.wf = true ∧
            (∀ a, a ≠ 510 → a ≠ 511 → m.read a = x.staging.read a) ∧
            (let word := (crc16 ((List.range 510).map fun a => x.staging.read a)).toNat
             m.read 510 = byte (word / 256) ∧ m.read 511 = byte word) ∧
            exec .burn s = .next (State.afterMgmt
              { s with
                images := ({ x with staging := m, burning := some i }).setBank i
                  { x.bank i with started := true, state := .spoilt } }
              q s.engine (.bare .started)))) ∧
    (q.kind = .bankStatus →
      let reported (i : BankId) : Byte := if x.burning = some i then 3 else (x.bank i).state.code
      exec .bankStatus s = .next (s.afterMgmt q s.engine
        { status := .ok
          content := [reported .a, reported .b, if x.burning.isSome then 1 else 0, if tag then 1 else 0,
            x.source.code] }))

/-- BURN_END (R184): where the bank reads back as the staging buffer it is finished and WRITTEN; where a byte differs it
is SPOILT, its finished mark stays clear and BURN_SPOILT is set. No response is placed, and nothing else changes. What
the bank reads back is the command's operand (log 9). -/
def Obligations.BurnEndsWrittenOrSpoilt : Prop :=
  ∀ (s : State) (i : BankId) (misread : List (Fin 512 × Byte)),
    s.images.burning = some i → s.burnLaw → s.images.staging.wf = true → (Instr.burnEnd misread).wellFormed = true →
    let x := s.images
    ((∀ c, c ∈ misread → x.staging.read c.1.val = c.2) →
      exec (.burnEnd misread) s = .next { s with
        images := ({ x with burning := none }).setBank i
          { content := x.staging, started := true, finished := true, state := .written } }) ∧
    ((∃ c, c ∈ misread ∧ x.staging.read c.1.val ≠ c.2) →
      ∃ m : Memory, m.wf = true ∧
        (∀ a, m.read a = ((misread.find? fun c => c.1.val == a).map Prod.snd).getD (x.staging.read a)) ∧
        exec (.burnEnd misread) s = .next { s with
          images := ({ x with burning := none }).setBank i
            { content := m, started := true, finished := false, state := .spoilt }
          engine := { s.engine with faults := { s.engine.faults with burnSpoilt := true } } })

/-- The image that CAPTURE makes of a valid configuration has its format tag, a good check word and every unused byte 0;
a load of it from either bank gives back the very configuration captured: every definition, profile and quota and the
divider (R180, R182, R188, R193, 12.5). -/
def Obligations.CapturedImageLoadsBackTheConfiguration : Prop :=
  ∀ s : State, s.configLaw →
    let m := imageOf s.engine s.divider
    m.wf = true ∧ m.tagPresent = true ∧ m.checkGood = true ∧
    (m.read 0 = 0x4D ∧ m.read 1 = 0x57) ∧
    [m.read 510, m.read 511] = bytes2 (crc16 ((List.range 510).map fun a => m.read a)).toNat ∧
    (∀ r : ResourceId, m.read (2 + 8 * r.val + 6) = 0 ∧ m.read (2 + 8 * r.val + 7) = 0) ∧
    (∀ a, 330 ≤ a → a < 510 → m.read a = 0) ∧
    ∀ (t : State) (i : BankId), t.load = some (match i with
        | .a => .bankA
        | .b => .bankB) →
      (t.images.bank i).content = m →
      ∃ u, exec .loadEnd t = .next u ∧ (∀ r, u.engine.defn r = s.engine.defn r) ∧
        (∀ p, Table.get u.engine.profiles p = Table.get s.engine.profiles p) ∧
        (∀ n, (u.engine.session n).quota = (s.engine.session n).quota) ∧ u.divider = s.divider

/-! ## Ticks -/

/-- TICK (R64, R67, R128): produced only while TGEN runs. The untaken count rises below 3; at 3 the tick is dropped and
TICK_SLIP set. HBS takes every sample, and accepts an edge in the direction selected from a valid sample while the
session is OPEN. Nothing else changes. That a TICK is produced and the period starts again whatever the elapsed count is
the model's choice (log 14): R64's tick at the divider is the idle step's. The levels are the command's operand
(log 12). -/
def Obligations.TickIsCountedOrSlipsAndSamplesHeartbeats : Prop :=
  ∀ (hb : Vector Bool 6) (s : State),
    (s.running = false → exec (.tick hb) s = .next s) ∧
    (s.running = true →
      exec (.tick hb) s = .next { s with
        hbPins := hb
        elapsed := 0
        untaken := if s.untaken < 3 then s.untaken + 1 else s.untaken
        engine := { s.engine with faults := { s.engine.faults with
          tickSlip := s.engine.faults.tickSlip || decide (3 ≤ s.untaken) } }
        heartbeats := Table.tab fun n =>
          let x := s.heartbeat n
          let high := Table.get hb n
          let rising := decide (x.selection = .rising ∨ x.selection = .both) && decide (x.previous = .low) && high
          let falling := decide (x.selection = .falling ∨ x.selection = .both) && decide (x.previous = .high) && !high
          { selection := x.selection
            previous := if high then .high else .low
            renewalPending := x.renewalPending ||
              ((rising || falling) && decide ((s.engine.session n).state = .opened)) } })

/-- A whole tick, on a lawful part with room in the fence counters (R69 to R74). Every held lease counts down by one and
warns at its lead, or, at remaining 1, is revoked with cause EXPIRED, its fence kept; a wait with patience 1 lapses with
cause PATIENCE, any other waits on with one tick less (UNBOUNDED waits on as it was) or is granted, with a fence above the
counter and the smaller of its asked term and the ceiling of the band that its own removal leaves (R58; its depth is
the waiters behind it that do not lapse at this tick, and no band rises in a tick); tombstones, FREE slots and generations stay; a quarantine of 2 or more counts down. -/
def Obligations.TickTakenCountsEveryRecordOnce : Prop :=
  ∀ s : State, s.handed = some .tickTaken → s.lawful → (∀ r, s.engine.fenceRoom r) →
    ∃ e, exec .tickTaken s = .next { s with engine := e, untaken := s.untaken - 1 }.settle ∧
      e.sessions = s.engine.sessions ∧ e.profiles = s.engine.profiles ∧ e.faults = s.engine.faults ∧
      (∀ r, e.defn r = s.engine.defn r ∧
        ∀ w, (s.engine.run r).state = .quarantine w → 2 ≤ w → (e.run r).state = .quarantine (w - 1)) ∧
      ∀ k, (e.slot k).generation = (s.engine.slot k).generation ∧
        (s.engine.record k = none → e.record k = none) ∧
        ∀ rec, s.engine.record k = some rec →
          let lead := (s.engine.defn rec.resource).lead
          let p := s.engine.profileOf rec.resource
          let x := s.engine.run rec.resource
          let behind := (x.queue.drop (x.queue.idxOf k + 1)).countP fun j =>
            !((s.engine.record j).any fun y => decide (y.standing = .waiting (.ticks 1)))
          let granted (rec' : Record) : Prop := ∃ (h : Held) (b : Nat),
            b ≤ x.band ∧ (1 ≤ b → p.threshold b ≤ behind) ∧ (b < x.band → behind < p.threshold (b + 1)) ∧
            h.remaining = min rec.asked (p.ceiling b) ∧ h.state = stateByLead lead h.remaining ∧ h.renewals = 0 ∧
            x.fence < h.fence ∧
            rec' = { rec with
              standing := .held h
              unseen := { rec.unseen with granted := true, warned := rec.unseen.warned || decide (h.state = .warned) } }
          match rec.standing with
          | .held h =>
            if h.remaining = 1 then e.record k = some (rec.revokedBy .expired)
            else
              let st := if h.state = .active then stateByLead lead (h.remaining - 1) else .warned
              e.record k = some { rec with
                standing := .held { h with state := st, remaining := h.remaining - 1 }
                unseen := { rec.unseen with
                  warned := rec.unseen.warned || (decide (h.state = .active) && decide (st = .warned)) } }
          | .waiting (.ticks left) =>
            if left = 1 then
              e.record k = some { rec with standing := .lapsed .patience, unseen := { rec.unseen with lapsed := true } }
            else
              e.record k = some { rec with standing := .waiting (.ticks (left - 1)) } ∨
                ∃ rec', e.record k = some rec' ∧ granted rec'
          | .waiting .unbounded => e.record k = some rec ∨ ∃ rec', e.record k = some rec' ∧ granted rec'
          | _ => e.record k = some rec

/-- LAPSE, EXPIRY and QUARANTINE_END are each the taking of the waiting tick that brings that ending about (R71, R72,
R106; the model's reading of these rows, log 4): the waiter with patience 1 is LAPSED and in no queue, the lease with
remaining 1 is REVOKED with its fence kept, the quarantine of 1 is over. -/
def Obligations.EndingsHappenInTheTickThatBringsThemAbout : Prop :=
  ∀ s : State, s.handed = some .tickTaken → s.lawful →
    (∀ k rec, s.engine.record k = some rec → rec.standing = .waiting (.ticks 1) →
      ∃ t, exec (.lapse k) s = .next t ∧ exec .tickTaken s = .next t ∧
        t.engine.record k = some { rec with standing := .lapsed .patience, unseen := { rec.unseen with lapsed := true } } ∧
        ∀ r, k ∉ (t.engine.run r).queue) ∧
    (∀ k rec h, s.engine.record k = some rec → rec.standing = .held h → h.remaining = 1 →
      s.engine.fenceRoom rec.resource →
      ∃ t, exec (.expiry k) s = .next t ∧ exec .tickTaken s = .next t ∧
        t.engine.record k = some (rec.revokedBy .expired) ∧
        (rec.mode = .exclusive → (s.engine.defn rec.resource).quarantine ≠ 0 →
          (t.engine.run rec.resource).state = .quarantine (s.engine.defn rec.resource).quarantine)) ∧
    ∀ r, (s.engine.run r).state = .quarantine 1 →
      ∃ t, exec (.quarantineEnd r) s = .next t ∧ exec .tickTaken s = .next t ∧
        (∀ w, (t.engine.run r).state ≠ .quarantine w) ∧
        ((s.engine.run r).queue = [] → t.engine.run r = { s.engine.run r with state := .free })

/-! ## What every step keeps -/

/-- Right after reset every law holds. The values the laws read that no rule states for reset are logs 6 and 7. -/
def Obligations.ResetIsLawful : Prop := State.reset.lawful

/-- From every lawful state each step leaves a lawful lease table: record counts, one live record per client and
resource, no record without an OPEN session, fields in their ranges, WARNED by the lead, notices by state (R1, R2, R12
to R19, R52, R75, R117, R118). -/
def Obligations.EveryStepKeepsTheLeaseTableLaws : Prop :=
  ∀ s t : State, s.lawful → step s = .next t →
    t.engine.countLaw ∧ t.engine.sessionLaw ∧ t.engine.epochLaw ∧ t.engine.generationLaw ∧ t.engine.liveLaw ∧
    t.engine.rangeLaw ∧ t.engine.warnLaw ∧ t.engine.noticeLaw

/-- From every lawful state each step leaves lawful resources: holder counts, queues of exactly the WAITING records,
the table of R29 row by row, LINE resources exclusive, bands by the law of R89, undefined and spent resources OFFLINE,
no fence held twice (R11, R27 to R29, R35, R44, R89, R113). -/
def Obligations.EveryStepKeepsTheResourceLaws : Prop :=
  ∀ s t : State, s.lawful → step s = .next t →
    t.engine.holderLaw ∧ t.engine.queueLaw ∧ t.engine.standingLaw ∧ t.engine.lineModeLaw ∧ t.engine.onlineLaw ∧
    t.engine.bandLaw ∧ t.engine.fenceLaw

/-- From every lawful state each step leaves a valid configuration, one reason at a time for STARTING, an empty table in
STARTING and SAFE, TGEN running exactly in SERVICE with ticks and flags only there, and heartbeats only for OPEN
sessions (R26, R64, R65, R67, R68, R88, R117, R129, R130, R133, R167, R170). -/
def Obligations.EveryStepKeepsTheConfigurationAndPartStateLaws : Prop :=
  ∀ s t : State, s.lawful → step s = .next t →
    t.configLaw ∧ t.phaseLaw ∧ t.restLaw ∧ t.clockLaw ∧ t.heartbeatLaw

/-- From every lawful state each step leaves L0 to L15 as R38 gives and ATN0 to ATN5 as R139 gives, every response in a
port framed with its length and check byte, buffers in canonical form, and banks that were burned once only (R38, R39,
R139, R149, R151, R153, R179, R183, R185). -/
def Obligations.EveryStepKeepsTheOutputPortAndImageLaws : Prop :=
  ∀ s t : State, s.lawful → step s = .next t → t.outputLaw ∧ t.portLaw ∧ t.bufferLaw ∧ t.burnLaw

/-- R113: no happening but a power-on reset lowers a fence counter, and that one sets it to 0; every grant carries a
fence above the counter as it stood, so above every earlier one (on queues that hold their own resource's waiters, R44); the
counter is kept across the reset pin, SERVICE RESET, ENTER SAFE, TAKE OFFLINE, BRING ONLINE and DEFINE RESOURCE. -/
def Obligations.FenceCountersNeverFallAndGrantsExceedThem : Prop :=
  ∀ (c : Instr) (s t : State), exec c s = .next t →
    ((∃ a i, c = .powerOnReset a i) → ∀ r, (t.engine.run r).fence = 0) ∧
    ((∀ a i, c ≠ .powerOnReset a i) →
      (∀ r, (s.engine.run r).fence ≤ (t.engine.run r).fence) ∧
      (s.engine.queueLaw → ∀ k rec h, t.engine.record k = some rec → rec.standing = .held h →
        (∃ rec' g, s.engine.record k = some rec' ∧ rec'.standing = .held g ∧ g.fence = h.fence) ∨
        (s.engine.run rec.resource).fence < h.fence)) ∧
    (c = .resetPinAssert ∨ c = .serviceReset ∨ c = .enterSafe ∨ c = .takeOffline ∨ c = .bringOnline ∨
      c = .defineResource → ∀ r, (t.engine.run r).fence = (s.engine.run r).fence)

/-- R2, R3, R7, R10, R11, R17: between two happenings a record either stands in its slot with its generation, client,
resource, mode, tag and line-renewable field kept, or was freed, and then the slot is FREE with its generation advanced;
an empty slot keeps its generation. A power-on reset alone sets generations back. -/
def Obligations.RecordsKeepTheirHandleUntilFreed : Prop :=
  ∀ (c : Instr) (s t : State), exec c s = .next t → (∀ a i, c ≠ .powerOnReset a i) →
    ∀ k,
      (s.engine.record k = none → (t.engine.slot k).generation = (s.engine.slot k).generation) ∧
      ∀ rec, s.engine.record k = some rec →
        (∃ rec', t.engine.record k = some rec' ∧ rec.sameClaim rec' ∧
          (t.engine.slot k).generation = (s.engine.slot k).generation) ∨
        (t.engine.record k = none ∧ (t.engine.slot k).generation = ((s.engine.slot k).generation + 1) % 1024)

/-- No request of a client ends another client's lease or changes its fence, where the resource's fence counter has room
for every grant the happening could make: one at ACQUIRE and one for each waiter (R10, R20, R33, R81, R94, R122). Without
that room the request may exhaust the resource (R33, R34), and no statement is made. -/
def Obligations.NoClientEndsAnotherClientsLease : Prop :=
  ∀ (kind : ClientKind) (n : Client) (s t : State), exec (kind.command n) s = .next t →
    ∀ k rec h, s.engine.record k = some rec → rec.client ≠ n → rec.standing = .held h →
      s.engine.fenceRoom rec.resource →
      ∃ rec' g, t.engine.record k = some rec' ∧ rec'.standing = .held g ∧ g.fence = h.fence ∧ rec.sameClaim rec'

/-- R44 and R45: a queue changes only by records leaving it and at most one new record, in a slot that was FREE, joining
at its tail; so those that stay keep their order and no happening lets a record pass another. On queues that hold just
their resource's WAITING records (R44) the one that joins was in no queue before. -/
def Obligations.QueuesKeepTheirOrder : Prop :=
  ∀ (c : Instr) (s t : State), exec c s = .next t → ∀ r,
    ∃ stayed joined, (t.engine.run r).queue = stayed ++ joined ∧ stayed.Sublist (s.engine.run r).queue ∧
      joined.length ≤ 1 ∧ (∀ k, k ∈ joined → s.engine.record k = none) ∧
      (s.engine.queueLaw → ∀ k, k ∈ joined → ∀ r', k ∉ (s.engine.run r').queue)
end

