-- ==== Sys2Proof/Laws/State.lean ====
section
/-! SUPPORT. The small lemmas of the state's updates: a table read after a write, one lemma per field per update,
and each named read after each named write. -/

namespace Sys2Proof

/-! ## Tables -/

@[simp] theorem Table.get_tab {n : Nat} {α : Type} (f : Fin n → α) (i : Fin n) : Table.get (Table.tab f) i = f i := by
  simp [Table.get, Table.tab]

@[simp] theorem Table.get_fill {n : Nat} {α : Type} (x : α) (i : Fin n) : Table.get (Table.fill n x) i = x := by
  simp [Table.get, Table.fill]

@[simp] theorem Table.get_put_self {n : Nat} {α : Type} (t : Vector α n) (i : Fin n) (x : α) :
    Table.get (Table.put t i x) i = x := by
  simp [Table.get, Table.put]

theorem Table.get_put_ne {n : Nat} {α : Type} (t : Vector α n) {i j : Fin n} (x : α) (h : i ≠ j) :
    Table.get (Table.put t i x) j = Table.get t j := by
  have h' : i.val ≠ j.val := fun e => h (Fin.ext e)
  simp [Table.get, Table.put, h']

theorem Table.get_put {n : Nat} {α : Type} (t : Vector α n) (i j : Fin n) (x : α) :
    Table.get (Table.put t i x) j = if i = j then x else Table.get t j := by
  by_cases h : i = j
  · subst h; simp
  · simp [h, Table.get_put_ne]

theorem Table.ext {n : Nat} {α : Type} {t u : Vector α n} (h : ∀ i, Table.get t i = Table.get u i) : t = u := by
  apply Vector.ext
  intro i hi
  simpa [Table.get] using h ⟨i, hi⟩

end Sys2Proof

namespace Sys2Proof.Machine

/-! ## Fields of the whole part after each update -/

@[simp] theorem State.setEngine_engine (s : State) (e : Engine) : (s.setEngine e).engine = e := rfl
@[simp] theorem State.setEngine_heartbeats (s : State) (e : Engine) : (s.setEngine e).heartbeats = s.heartbeats := rfl
@[simp] theorem State.setEngine_untaken (s : State) (e : Engine) : (s.setEngine e).untaken = s.untaken := rfl
@[simp] theorem State.setEngine_pointer (s : State) (e : Engine) : (s.setEngine e).pointer = s.pointer := rfl
@[simp] theorem State.setEngine_divider (s : State) (e : Engine) : (s.setEngine e).divider = s.divider := rfl
@[simp] theorem State.setEngine_elapsed (s : State) (e : Engine) : (s.setEngine e).elapsed = s.elapsed := rfl
@[simp] theorem State.setEngine_running (s : State) (e : Engine) : (s.setEngine e).running = s.running := rfl
@[simp] theorem State.setEngine_ports (s : State) (e : Engine) : (s.setEngine e).ports = s.ports := rfl
@[simp] theorem State.setEngine_mport (s : State) (e : Engine) : (s.setEngine e).mport = s.mport := rfl
@[simp] theorem State.setEngine_addressStraps (s : State) (e : Engine) : (s.setEngine e).addressStraps = s.addressStraps := rfl
@[simp] theorem State.setEngine_lines (s : State) (e : Engine) : (s.setEngine e).lines = s.lines := rfl
@[simp] theorem State.setEngine_attention (s : State) (e : Engine) : (s.setEngine e).attention = s.attention := rfl
@[simp] theorem State.setEngine_images (s : State) (e : Engine) : (s.setEngine e).images = s.images := rfl
@[simp] theorem State.setEngine_part (s : State) (e : Engine) : (s.setEngine e).part = s.part := rfl
@[simp] theorem State.setEngine_load (s : State) (e : Engine) : (s.setEngine e).load = s.load := rfl
@[simp] theorem State.setEngine_restarting (s : State) (e : Engine) : (s.setEngine e).restarting = s.restarting := rfl
@[simp] theorem State.setEngine_resetPin (s : State) (e : Engine) : (s.setEngine e).resetPin = s.resetPin := rfl
@[simp] theorem State.setEngine_hbPins (s : State) (e : Engine) : (s.setEngine e).hbPins = s.hbPins := rfl
@[simp] theorem State.setEngine_clientData (s : State) (e : Engine) : (s.setEngine e).clientData = s.clientData := rfl
@[simp] theorem State.setEngine_mgmtData (s : State) (e : Engine) : (s.setEngine e).mgmtData = s.mgmtData := rfl
@[simp] theorem State.setEngine_mgmtAck (s : State) (e : Engine) : (s.setEngine e).mgmtAck = s.mgmtAck := rfl
@[simp] theorem State.setEngine_freeIndex (s : State) (e : Engine) : (s.setEngine e).freeIndex = s.freeIndex := rfl
@[simp] theorem State.setEngine_pending (s : State) (e : Engine) : (s.setEngine e).pending = s.pending := rfl

@[simp] theorem State.setImages_engine (s : State) (x : ImageStore) : (s.setImages x).engine = s.engine := rfl
@[simp] theorem State.setImages_heartbeats (s : State) (x : ImageStore) : (s.setImages x).heartbeats = s.heartbeats := rfl
@[simp] theorem State.setImages_untaken (s : State) (x : ImageStore) : (s.setImages x).untaken = s.untaken := rfl
@[simp] theorem State.setImages_pointer (s : State) (x : ImageStore) : (s.setImages x).pointer = s.pointer := rfl
@[simp] theorem State.setImages_divider (s : State) (x : ImageStore) : (s.setImages x).divider = s.divider := rfl
@[simp] theorem State.setImages_elapsed (s : State) (x : ImageStore) : (s.setImages x).elapsed = s.elapsed := rfl
@[simp] theorem State.setImages_running (s : State) (x : ImageStore) : (s.setImages x).running = s.running := rfl
@[simp] theorem State.setImages_ports (s : State) (x : ImageStore) : (s.setImages x).ports = s.ports := rfl
@[simp] theorem State.setImages_mport (s : State) (x : ImageStore) : (s.setImages x).mport = s.mport := rfl
@[simp] theorem State.setImages_addressStraps (s : State) (x : ImageStore) : (s.setImages x).addressStraps = s.addressStraps := rfl
@[simp] theorem State.setImages_lines (s : State) (x : ImageStore) : (s.setImages x).lines = s.lines := rfl
@[simp] theorem State.setImages_attention (s : State) (x : ImageStore) : (s.setImages x).attention = s.attention := rfl
@[simp] theorem State.setImages_images (s : State) (x : ImageStore) : (s.setImages x).images = x := rfl
@[simp] theorem State.setImages_part (s : State) (x : ImageStore) : (s.setImages x).part = s.part := rfl
@[simp] theorem State.setImages_load (s : State) (x : ImageStore) : (s.setImages x).load = s.load := rfl
@[simp] theorem State.setImages_restarting (s : State) (x : ImageStore) : (s.setImages x).restarting = s.restarting := rfl
@[simp] theorem State.setImages_resetPin (s : State) (x : ImageStore) : (s.setImages x).resetPin = s.resetPin := rfl
@[simp] theorem State.setImages_hbPins (s : State) (x : ImageStore) : (s.setImages x).hbPins = s.hbPins := rfl
@[simp] theorem State.setImages_clientData (s : State) (x : ImageStore) : (s.setImages x).clientData = s.clientData := rfl
@[simp] theorem State.setImages_mgmtData (s : State) (x : ImageStore) : (s.setImages x).mgmtData = s.mgmtData := rfl
@[simp] theorem State.setImages_mgmtAck (s : State) (x : ImageStore) : (s.setImages x).mgmtAck = s.mgmtAck := rfl
@[simp] theorem State.setImages_freeIndex (s : State) (x : ImageStore) : (s.setImages x).freeIndex = s.freeIndex := rfl
@[simp] theorem State.setImages_pending (s : State) (x : ImageStore) : (s.setImages x).pending = s.pending := rfl

@[simp] theorem State.setMport_engine (s : State) (x : Port MgmtKind) : (s.setMport x).engine = s.engine := rfl
@[simp] theorem State.setMport_heartbeats (s : State) (x : Port MgmtKind) : (s.setMport x).heartbeats = s.heartbeats := rfl
@[simp] theorem State.setMport_untaken (s : State) (x : Port MgmtKind) : (s.setMport x).untaken = s.untaken := rfl
@[simp] theorem State.setMport_pointer (s : State) (x : Port MgmtKind) : (s.setMport x).pointer = s.pointer := rfl
@[simp] theorem State.setMport_divider (s : State) (x : Port MgmtKind) : (s.setMport x).divider = s.divider := rfl
@[simp] theorem State.setMport_elapsed (s : State) (x : Port MgmtKind) : (s.setMport x).elapsed = s.elapsed := rfl
@[simp] theorem State.setMport_running (s : State) (x : Port MgmtKind) : (s.setMport x).running = s.running := rfl
@[simp] theorem State.setMport_ports (s : State) (x : Port MgmtKind) : (s.setMport x).ports = s.ports := rfl
@[simp] theorem State.setMport_mport (s : State) (x : Port MgmtKind) : (s.setMport x).mport = x := rfl
@[simp] theorem State.setMport_addressStraps (s : State) (x : Port MgmtKind) : (s.setMport x).addressStraps = s.addressStraps := rfl
@[simp] theorem State.setMport_lines (s : State) (x : Port MgmtKind) : (s.setMport x).lines = s.lines := rfl
@[simp] theorem State.setMport_attention (s : State) (x : Port MgmtKind) : (s.setMport x).attention = s.attention := rfl
@[simp] theorem State.setMport_images (s : State) (x : Port MgmtKind) : (s.setMport x).images = s.images := rfl
@[simp] theorem State.setMport_part (s : State) (x : Port MgmtKind) : (s.setMport x).part = s.part := rfl
@[simp] theorem State.setMport_load (s : State) (x : Port MgmtKind) : (s.setMport x).load = s.load := rfl
@[simp] theorem State.setMport_restarting (s : State) (x : Port MgmtKind) : (s.setMport x).restarting = s.restarting := rfl
@[simp] theorem State.setMport_resetPin (s : State) (x : Port MgmtKind) : (s.setMport x).resetPin = s.resetPin := rfl
@[simp] theorem State.setMport_hbPins (s : State) (x : Port MgmtKind) : (s.setMport x).hbPins = s.hbPins := rfl
@[simp] theorem State.setMport_clientData (s : State) (x : Port MgmtKind) : (s.setMport x).clientData = s.clientData := rfl
@[simp] theorem State.setMport_mgmtData (s : State) (x : Port MgmtKind) : (s.setMport x).mgmtData = s.mgmtData := rfl
@[simp] theorem State.setMport_mgmtAck (s : State) (x : Port MgmtKind) : (s.setMport x).mgmtAck = s.mgmtAck := rfl
@[simp] theorem State.setMport_freeIndex (s : State) (x : Port MgmtKind) : (s.setMport x).freeIndex = s.freeIndex := rfl
@[simp] theorem State.setMport_pending (s : State) (x : Port MgmtKind) : (s.setMport x).pending = s.pending := rfl

@[simp] theorem State.setPort_engine (s : State) (n : Client) (x : Port ClientKind) : (s.setPort n x).engine = s.engine := rfl
@[simp] theorem State.setPort_heartbeats (s : State) (n : Client) (x : Port ClientKind) : (s.setPort n x).heartbeats = s.heartbeats := rfl
@[simp] theorem State.setPort_untaken (s : State) (n : Client) (x : Port ClientKind) : (s.setPort n x).untaken = s.untaken := rfl
@[simp] theorem State.setPort_pointer (s : State) (n : Client) (x : Port ClientKind) : (s.setPort n x).pointer = s.pointer := rfl
@[simp] theorem State.setPort_divider (s : State) (n : Client) (x : Port ClientKind) : (s.setPort n x).divider = s.divider := rfl
@[simp] theorem State.setPort_elapsed (s : State) (n : Client) (x : Port ClientKind) : (s.setPort n x).elapsed = s.elapsed := rfl
@[simp] theorem State.setPort_running (s : State) (n : Client) (x : Port ClientKind) : (s.setPort n x).running = s.running := rfl
@[simp] theorem State.setPort_ports (s : State) (n : Client) (x : Port ClientKind) : (s.setPort n x).ports = Table.put s.ports n x := rfl
@[simp] theorem State.setPort_mport (s : State) (n : Client) (x : Port ClientKind) : (s.setPort n x).mport = s.mport := rfl
@[simp] theorem State.setPort_addressStraps (s : State) (n : Client) (x : Port ClientKind) : (s.setPort n x).addressStraps = s.addressStraps := rfl
@[simp] theorem State.setPort_lines (s : State) (n : Client) (x : Port ClientKind) : (s.setPort n x).lines = s.lines := rfl
@[simp] theorem State.setPort_attention (s : State) (n : Client) (x : Port ClientKind) : (s.setPort n x).attention = s.attention := rfl
@[simp] theorem State.setPort_images (s : State) (n : Client) (x : Port ClientKind) : (s.setPort n x).images = s.images := rfl
@[simp] theorem State.setPort_part (s : State) (n : Client) (x : Port ClientKind) : (s.setPort n x).part = s.part := rfl
@[simp] theorem State.setPort_load (s : State) (n : Client) (x : Port ClientKind) : (s.setPort n x).load = s.load := rfl
@[simp] theorem State.setPort_restarting (s : State) (n : Client) (x : Port ClientKind) : (s.setPort n x).restarting = s.restarting := rfl
@[simp] theorem State.setPort_resetPin (s : State) (n : Client) (x : Port ClientKind) : (s.setPort n x).resetPin = s.resetPin := rfl
@[simp] theorem State.setPort_hbPins (s : State) (n : Client) (x : Port ClientKind) : (s.setPort n x).hbPins = s.hbPins := rfl
@[simp] theorem State.setPort_clientData (s : State) (n : Client) (x : Port ClientKind) : (s.setPort n x).clientData = s.clientData := rfl
@[simp] theorem State.setPort_mgmtData (s : State) (n : Client) (x : Port ClientKind) : (s.setPort n x).mgmtData = s.mgmtData := rfl
@[simp] theorem State.setPort_mgmtAck (s : State) (n : Client) (x : Port ClientKind) : (s.setPort n x).mgmtAck = s.mgmtAck := rfl
@[simp] theorem State.setPort_freeIndex (s : State) (n : Client) (x : Port ClientKind) : (s.setPort n x).freeIndex = s.freeIndex := rfl
@[simp] theorem State.setPort_pending (s : State) (n : Client) (x : Port ClientKind) : (s.setPort n x).pending = s.pending := rfl

@[simp] theorem State.setHeartbeat_engine (s : State) (n : Client) (x : Heartbeat) : (s.setHeartbeat n x).engine = s.engine := rfl
@[simp] theorem State.setHeartbeat_heartbeats (s : State) (n : Client) (x : Heartbeat) : (s.setHeartbeat n x).heartbeats = Table.put s.heartbeats n x := rfl
@[simp] theorem State.setHeartbeat_untaken (s : State) (n : Client) (x : Heartbeat) : (s.setHeartbeat n x).untaken = s.untaken := rfl
@[simp] theorem State.setHeartbeat_pointer (s : State) (n : Client) (x : Heartbeat) : (s.setHeartbeat n x).pointer = s.pointer := rfl
@[simp] theorem State.setHeartbeat_divider (s : State) (n : Client) (x : Heartbeat) : (s.setHeartbeat n x).divider = s.divider := rfl
@[simp] theorem State.setHeartbeat_elapsed (s : State) (n : Client) (x : Heartbeat) : (s.setHeartbeat n x).elapsed = s.elapsed := rfl
@[simp] theorem State.setHeartbeat_running (s : State) (n : Client) (x : Heartbeat) : (s.setHeartbeat n x).running = s.running := rfl
@[simp] theorem State.setHeartbeat_ports (s : State) (n : Client) (x : Heartbeat) : (s.setHeartbeat n x).ports = s.ports := rfl
@[simp] theorem State.setHeartbeat_mport (s : State) (n : Client) (x : Heartbeat) : (s.setHeartbeat n x).mport = s.mport := rfl
@[simp] theorem State.setHeartbeat_addressStraps (s : State) (n : Client) (x : Heartbeat) : (s.setHeartbeat n x).addressStraps = s.addressStraps := rfl
@[simp] theorem State.setHeartbeat_lines (s : State) (n : Client) (x : Heartbeat) : (s.setHeartbeat n x).lines = s.lines := rfl
@[simp] theorem State.setHeartbeat_attention (s : State) (n : Client) (x : Heartbeat) : (s.setHeartbeat n x).attention = s.attention := rfl
@[simp] theorem State.setHeartbeat_images (s : State) (n : Client) (x : Heartbeat) : (s.setHeartbeat n x).images = s.images := rfl
@[simp] theorem State.setHeartbeat_part (s : State) (n : Client) (x : Heartbeat) : (s.setHeartbeat n x).part = s.part := rfl
@[simp] theorem State.setHeartbeat_load (s : State) (n : Client) (x : Heartbeat) : (s.setHeartbeat n x).load = s.load := rfl
@[simp] theorem State.setHeartbeat_restarting (s : State) (n : Client) (x : Heartbeat) : (s.setHeartbeat n x).restarting = s.restarting := rfl
@[simp] theorem State.setHeartbeat_resetPin (s : State) (n : Client) (x : Heartbeat) : (s.setHeartbeat n x).resetPin = s.resetPin := rfl
@[simp] theorem State.setHeartbeat_hbPins (s : State) (n : Client) (x : Heartbeat) : (s.setHeartbeat n x).hbPins = s.hbPins := rfl
@[simp] theorem State.setHeartbeat_clientData (s : State) (n : Client) (x : Heartbeat) : (s.setHeartbeat n x).clientData = s.clientData := rfl
@[simp] theorem State.setHeartbeat_mgmtData (s : State) (n : Client) (x : Heartbeat) : (s.setHeartbeat n x).mgmtData = s.mgmtData := rfl
@[simp] theorem State.setHeartbeat_mgmtAck (s : State) (n : Client) (x : Heartbeat) : (s.setHeartbeat n x).mgmtAck = s.mgmtAck := rfl
@[simp] theorem State.setHeartbeat_freeIndex (s : State) (n : Client) (x : Heartbeat) : (s.setHeartbeat n x).freeIndex = s.freeIndex := rfl
@[simp] theorem State.setHeartbeat_pending (s : State) (n : Client) (x : Heartbeat) : (s.setHeartbeat n x).pending = s.pending := rfl

@[simp] theorem State.serve_engine (s : State) (n : Client) : (s.serve n).engine = s.engine := rfl
@[simp] theorem State.serve_heartbeats (s : State) (n : Client) : (s.serve n).heartbeats = s.heartbeats := rfl
@[simp] theorem State.serve_untaken (s : State) (n : Client) : (s.serve n).untaken = s.untaken := rfl
@[simp] theorem State.serve_pointer (s : State) (n : Client) : (s.serve n).pointer = n + 1 := rfl
@[simp] theorem State.serve_divider (s : State) (n : Client) : (s.serve n).divider = s.divider := rfl
@[simp] theorem State.serve_elapsed (s : State) (n : Client) : (s.serve n).elapsed = s.elapsed := rfl
@[simp] theorem State.serve_running (s : State) (n : Client) : (s.serve n).running = s.running := rfl
@[simp] theorem State.serve_ports (s : State) (n : Client) : (s.serve n).ports = s.ports := rfl
@[simp] theorem State.serve_mport (s : State) (n : Client) : (s.serve n).mport = s.mport := rfl
@[simp] theorem State.serve_addressStraps (s : State) (n : Client) : (s.serve n).addressStraps = s.addressStraps := rfl
@[simp] theorem State.serve_lines (s : State) (n : Client) : (s.serve n).lines = s.lines := rfl
@[simp] theorem State.serve_attention (s : State) (n : Client) : (s.serve n).attention = s.attention := rfl
@[simp] theorem State.serve_images (s : State) (n : Client) : (s.serve n).images = s.images := rfl
@[simp] theorem State.serve_part (s : State) (n : Client) : (s.serve n).part = s.part := rfl
@[simp] theorem State.serve_load (s : State) (n : Client) : (s.serve n).load = s.load := rfl
@[simp] theorem State.serve_restarting (s : State) (n : Client) : (s.serve n).restarting = s.restarting := rfl
@[simp] theorem State.serve_resetPin (s : State) (n : Client) : (s.serve n).resetPin = s.resetPin := rfl
@[simp] theorem State.serve_hbPins (s : State) (n : Client) : (s.serve n).hbPins = s.hbPins := rfl
@[simp] theorem State.serve_clientData (s : State) (n : Client) : (s.serve n).clientData = s.clientData := rfl
@[simp] theorem State.serve_mgmtData (s : State) (n : Client) : (s.serve n).mgmtData = s.mgmtData := rfl
@[simp] theorem State.serve_mgmtAck (s : State) (n : Client) : (s.serve n).mgmtAck = s.mgmtAck := rfl
@[simp] theorem State.serve_freeIndex (s : State) (n : Client) : (s.serve n).freeIndex = s.freeIndex := rfl
@[simp] theorem State.serve_pending (s : State) (n : Client) : (s.serve n).pending = s.pending := rfl

@[simp] theorem State.settle_engine (s : State) : (s.settle).engine = s.engine := rfl
@[simp] theorem State.settle_heartbeats (s : State) : (s.settle).heartbeats = s.heartbeats := rfl
@[simp] theorem State.settle_untaken (s : State) : (s.settle).untaken = s.untaken := rfl
@[simp] theorem State.settle_pointer (s : State) : (s.settle).pointer = s.pointer := rfl
@[simp] theorem State.settle_divider (s : State) : (s.settle).divider = s.divider := rfl
@[simp] theorem State.settle_elapsed (s : State) : (s.settle).elapsed = s.elapsed := rfl
@[simp] theorem State.settle_running (s : State) : (s.settle).running = s.running := rfl
@[simp] theorem State.settle_ports (s : State) : (s.settle).ports = s.ports := rfl
@[simp] theorem State.settle_mport (s : State) : (s.settle).mport = s.mport := rfl
@[simp] theorem State.settle_addressStraps (s : State) : (s.settle).addressStraps = s.addressStraps := rfl
@[simp] theorem State.settle_lines (s : State) : (s.settle).lines = s.linesOf := rfl
@[simp] theorem State.settle_attention (s : State) : (s.settle).attention = s.attentionOf := rfl
@[simp] theorem State.settle_images (s : State) : (s.settle).images = s.images := rfl
@[simp] theorem State.settle_part (s : State) : (s.settle).part = s.part := rfl
@[simp] theorem State.settle_load (s : State) : (s.settle).load = s.load := rfl
@[simp] theorem State.settle_restarting (s : State) : (s.settle).restarting = s.restarting := rfl
@[simp] theorem State.settle_resetPin (s : State) : (s.settle).resetPin = s.resetPin := rfl
@[simp] theorem State.settle_hbPins (s : State) : (s.settle).hbPins = s.hbPins := rfl
@[simp] theorem State.settle_clientData (s : State) : (s.settle).clientData = s.clientData := rfl
@[simp] theorem State.settle_mgmtData (s : State) : (s.settle).mgmtData = s.mgmtData := rfl
@[simp] theorem State.settle_mgmtAck (s : State) : (s.settle).mgmtAck = s.mgmtAck := rfl
@[simp] theorem State.settle_freeIndex (s : State) : (s.settle).freeIndex = s.freeIndex := rfl
@[simp] theorem State.settle_pending (s : State) : (s.settle).pending = s.pending := rfl

/-! ## Fields of the lease engine after each update -/

@[simp] theorem Engine.setSlot_slots (e : Engine) (k : SlotId) (x : Slot) : (e.setSlot k x).slots = Table.put e.slots k x := rfl
@[simp] theorem Engine.setSlot_resources (e : Engine) (k : SlotId) (x : Slot) : (e.setSlot k x).resources = e.resources := rfl
@[simp] theorem Engine.setSlot_profiles (e : Engine) (k : SlotId) (x : Slot) : (e.setSlot k x).profiles = e.profiles := rfl
@[simp] theorem Engine.setSlot_sessions (e : Engine) (k : SlotId) (x : Slot) : (e.setSlot k x).sessions = e.sessions := rfl
@[simp] theorem Engine.setSlot_faults (e : Engine) (k : SlotId) (x : Slot) : (e.setSlot k x).faults = e.faults := rfl

@[simp] theorem Engine.setSession_slots (e : Engine) (n : Client) (x : Session) : (e.setSession n x).slots = e.slots := rfl
@[simp] theorem Engine.setSession_resources (e : Engine) (n : Client) (x : Session) : (e.setSession n x).resources = e.resources := rfl
@[simp] theorem Engine.setSession_profiles (e : Engine) (n : Client) (x : Session) : (e.setSession n x).profiles = e.profiles := rfl
@[simp] theorem Engine.setSession_sessions (e : Engine) (n : Client) (x : Session) : (e.setSession n x).sessions = Table.put e.sessions n x := rfl
@[simp] theorem Engine.setSession_faults (e : Engine) (n : Client) (x : Session) : (e.setSession n x).faults = e.faults := rfl

@[simp] theorem Engine.setProfile_slots (e : Engine) (p : Fin 4) (x : Profile) : (e.setProfile p x).slots = e.slots := rfl
@[simp] theorem Engine.setProfile_resources (e : Engine) (p : Fin 4) (x : Profile) : (e.setProfile p x).resources = e.resources := rfl
@[simp] theorem Engine.setProfile_profiles (e : Engine) (p : Fin 4) (x : Profile) : (e.setProfile p x).profiles = Table.put e.profiles p x := rfl
@[simp] theorem Engine.setProfile_sessions (e : Engine) (p : Fin 4) (x : Profile) : (e.setProfile p x).sessions = e.sessions := rfl
@[simp] theorem Engine.setProfile_faults (e : Engine) (p : Fin 4) (x : Profile) : (e.setProfile p x).faults = e.faults := rfl

@[simp] theorem Engine.setRun_slots (e : Engine) (r : ResourceId) (x : Run) : (e.setRun r x).slots = e.slots := rfl
@[simp] theorem Engine.setRun_profiles (e : Engine) (r : ResourceId) (x : Run) : (e.setRun r x).profiles = e.profiles := rfl
@[simp] theorem Engine.setRun_sessions (e : Engine) (r : ResourceId) (x : Run) : (e.setRun r x).sessions = e.sessions := rfl
@[simp] theorem Engine.setRun_faults (e : Engine) (r : ResourceId) (x : Run) : (e.setRun r x).faults = e.faults := rfl

@[simp] theorem Engine.setDefn_slots (e : Engine) (r : ResourceId) (x : Definition) : (e.setDefn r x).slots = e.slots := rfl
@[simp] theorem Engine.setDefn_profiles (e : Engine) (r : ResourceId) (x : Definition) : (e.setDefn r x).profiles = e.profiles := rfl
@[simp] theorem Engine.setDefn_sessions (e : Engine) (r : ResourceId) (x : Definition) : (e.setDefn r x).sessions = e.sessions := rfl
@[simp] theorem Engine.setDefn_faults (e : Engine) (r : ResourceId) (x : Definition) : (e.setDefn r x).faults = e.faults := rfl

@[simp] theorem Engine.mapRecords_resources (e : Engine) (f : SlotId → Record → Record) : (e.mapRecords f).resources = e.resources := rfl
@[simp] theorem Engine.mapRecords_profiles (e : Engine) (f : SlotId → Record → Record) : (e.mapRecords f).profiles = e.profiles := rfl
@[simp] theorem Engine.mapRecords_sessions (e : Engine) (f : SlotId → Record → Record) : (e.mapRecords f).sessions = e.sessions := rfl
@[simp] theorem Engine.mapRecords_faults (e : Engine) (f : SlotId → Record → Record) : (e.mapRecords f).faults = e.faults := rfl

/-! ## Named reads after named writes -/

theorem Engine.slot_setSlot (e : Engine) (k j : SlotId) (x : Slot) :
    (e.setSlot k x).slot j = if k = j then x else e.slot j := Table.get_put _ _ _ _

@[simp] theorem Engine.slot_setSlot_self (e : Engine) (k : SlotId) (x : Slot) :
    (e.setSlot k x).slot k = x := Table.get_put_self _ _ _

theorem Engine.record_setSlot (e : Engine) (k j : SlotId) (x : Slot) :
    (e.setSlot k x).record j = if k = j then x.record else e.record j := by
  simp only [Engine.record, Engine.slot_setSlot]; split <;> rfl

theorem Engine.record_putRecord (e : Engine) (k j : SlotId) (rec : Record) :
    (e.putRecord k rec).record j = if k = j then some rec else e.record j := Engine.record_setSlot _ _ _ _

@[simp] theorem Engine.record_putRecord_self (e : Engine) (k : SlotId) (rec : Record) :
    (e.putRecord k rec).record k = some rec := by
  simp [Engine.record_putRecord]

@[simp] theorem Engine.generation_putRecord (e : Engine) (k j : SlotId) (rec : Record) :
    ((e.putRecord k rec).slot j).generation = (e.slot j).generation := by
  simp only [Engine.putRecord, Engine.slot_setSlot]; split <;> simp_all

@[simp] theorem Engine.record_mapRecords (e : Engine) (f : SlotId → Record → Record) (k : SlotId) :
    (e.mapRecords f).record k = (e.record k).map (f k) := by
  simp [Engine.record, Engine.slot, Engine.mapRecords]

@[simp] theorem Engine.generation_mapRecords (e : Engine) (f : SlotId → Record → Record) (k : SlotId) :
    ((e.mapRecords f).slot k).generation = (e.slot k).generation := by
  simp [Engine.slot, Engine.mapRecords]

@[simp] theorem Engine.run_setSlot (e : Engine) (k : SlotId) (x : Slot) (r : ResourceId) :
    (e.setSlot k x).run r = e.run r := rfl

@[simp] theorem Engine.defn_setSlot (e : Engine) (k : SlotId) (x : Slot) (r : ResourceId) :
    (e.setSlot k x).defn r = e.defn r := rfl

@[simp] theorem Engine.run_putRecord (e : Engine) (k : SlotId) (x : Record) (r : ResourceId) :
    (e.putRecord k x).run r = e.run r := rfl

@[simp] theorem Engine.defn_putRecord (e : Engine) (k : SlotId) (x : Record) (r : ResourceId) :
    (e.putRecord k x).defn r = e.defn r := rfl

@[simp] theorem Engine.run_mapRecords (e : Engine) (f : SlotId → Record → Record) (r : ResourceId) :
    (e.mapRecords f).run r = e.run r := rfl

@[simp] theorem Engine.defn_mapRecords (e : Engine) (f : SlotId → Record → Record) (r : ResourceId) :
    (e.mapRecords f).defn r = e.defn r := rfl

@[simp] theorem Engine.run_setSession (e : Engine) (n : Client) (x : Session) (r : ResourceId) :
    (e.setSession n x).run r = e.run r := rfl

@[simp] theorem Engine.defn_setSession (e : Engine) (n : Client) (x : Session) (r : ResourceId) :
    (e.setSession n x).defn r = e.defn r := rfl

@[simp] theorem Engine.run_setProfile (e : Engine) (p : Fin 4) (x : Profile) (r : ResourceId) :
    (e.setProfile p x).run r = e.run r := rfl

@[simp] theorem Engine.defn_setProfile (e : Engine) (p : Fin 4) (x : Profile) (r : ResourceId) :
    (e.setProfile p x).defn r = e.defn r := rfl

@[simp] theorem Engine.session_setSlot (e : Engine) (k : SlotId) (x : Slot) (n : Client) :
    (e.setSlot k x).session n = e.session n := rfl

@[simp] theorem Engine.session_putRecord (e : Engine) (k : SlotId) (x : Record) (n : Client) :
    (e.putRecord k x).session n = e.session n := rfl

@[simp] theorem Engine.session_mapRecords (e : Engine) (f : SlotId → Record → Record) (n : Client) :
    (e.mapRecords f).session n = e.session n := rfl

@[simp] theorem Engine.session_setRun (e : Engine) (r : ResourceId) (x : Run) (n : Client) :
    (e.setRun r x).session n = e.session n := rfl

@[simp] theorem Engine.session_setDefn (e : Engine) (r : ResourceId) (x : Definition) (n : Client) :
    (e.setDefn r x).session n = e.session n := rfl

@[simp] theorem Engine.session_setProfile (e : Engine) (p : Fin 4) (x : Profile) (n : Client) :
    (e.setProfile p x).session n = e.session n := rfl

@[simp] theorem Engine.slot_setRun (e : Engine) (r : ResourceId) (x : Run) (k : SlotId) :
    (e.setRun r x).slot k = e.slot k := rfl

@[simp] theorem Engine.record_setRun (e : Engine) (r : ResourceId) (x : Run) (k : SlotId) :
    (e.setRun r x).record k = e.record k := rfl

@[simp] theorem Engine.slot_setDefn (e : Engine) (r : ResourceId) (x : Definition) (k : SlotId) :
    (e.setDefn r x).slot k = e.slot k := rfl

@[simp] theorem Engine.record_setDefn (e : Engine) (r : ResourceId) (x : Definition) (k : SlotId) :
    (e.setDefn r x).record k = e.record k := rfl

@[simp] theorem Engine.slot_setSession (e : Engine) (n : Client) (x : Session) (k : SlotId) :
    (e.setSession n x).slot k = e.slot k := rfl

@[simp] theorem Engine.record_setSession (e : Engine) (n : Client) (x : Session) (k : SlotId) :
    (e.setSession n x).record k = e.record k := rfl

@[simp] theorem Engine.slot_setProfile (e : Engine) (p : Fin 4) (x : Profile) (k : SlotId) :
    (e.setProfile p x).slot k = e.slot k := rfl

@[simp] theorem Engine.record_setProfile (e : Engine) (p : Fin 4) (x : Profile) (k : SlotId) :
    (e.setProfile p x).record k = e.record k := rfl

theorem Engine.session_setSession (e : Engine) (n m : Client) (x : Session) :
    (e.setSession n x).session m = if n = m then x else e.session m := Table.get_put _ _ _ _

@[simp] theorem Engine.session_setSession_self (e : Engine) (n : Client) (x : Session) :
    (e.setSession n x).session n = x := Table.get_put_self _ _ _

theorem Engine.run_setRun (e : Engine) (r q : ResourceId) (x : Run) :
    (e.setRun r x).run q = if r = q then x else e.run q := by
  simp only [Engine.run, Engine.setRun, Table.get_put]; split <;> rfl

@[simp] theorem Engine.run_setRun_self (e : Engine) (r : ResourceId) (x : Run) :
    (e.setRun r x).run r = x := by
  simp [Engine.run_setRun]

@[simp] theorem Engine.defn_setRun (e : Engine) (r q : ResourceId) (x : Run) :
    (e.setRun r x).defn q = e.defn q := by
  simp only [Engine.defn, Engine.setRun, Table.get_put]; split <;> simp_all

@[simp] theorem Engine.run_setDefn (e : Engine) (r q : ResourceId) (x : Definition) :
    (e.setDefn r x).run q = e.run q := by
  simp only [Engine.run, Engine.setDefn, Table.get_put]; split <;> simp_all

theorem Engine.defn_setDefn (e : Engine) (r q : ResourceId) (x : Definition) :
    (e.setDefn r x).defn q = if r = q then x else e.defn q := by
  simp only [Engine.defn, Engine.setDefn, Table.get_put]; split <;> rfl

@[simp] theorem Engine.profileOf_setRun (e : Engine) (r q : ResourceId) (x : Run) :
    (e.setRun r x).profileOf q = e.profileOf q := by
  simp [Engine.profileOf]

theorem State.port_setPort (s : State) (n m : Client) (x : Port ClientKind) :
    (s.setPort n x).port m = if n = m then x else s.port m := Table.get_put _ _ _ _

@[simp] theorem State.port_setPort_self (s : State) (n : Client) (x : Port ClientKind) :
    (s.setPort n x).port n = x := Table.get_put_self _ _ _

theorem State.heartbeat_setHeartbeat (s : State) (n m : Client) (x : Heartbeat) :
    (s.setHeartbeat n x).heartbeat m = if n = m then x else s.heartbeat m := Table.get_put _ _ _ _

@[simp] theorem State.heartbeat_setHeartbeat_self (s : State) (n : Client) (x : Heartbeat) :
    (s.setHeartbeat n x).heartbeat n = x := Table.get_put_self _ _ _

@[simp] theorem State.port_setEngine (s : State) (e : Engine) (n : Client) :
    (s.setEngine e).port n = s.port n := rfl

@[simp] theorem State.port_setHeartbeat (s : State) (m : Client) (x : Heartbeat) (n : Client) :
    (s.setHeartbeat m x).port n = s.port n := rfl

@[simp] theorem State.port_setMport (s : State) (x : Port MgmtKind) (n : Client) :
    (s.setMport x).port n = s.port n := rfl

@[simp] theorem State.port_setImages (s : State) (x : ImageStore) (n : Client) :
    (s.setImages x).port n = s.port n := rfl

@[simp] theorem State.port_serve (s : State) (m : Client) (n : Client) :
    (s.serve m).port n = s.port n := rfl

@[simp] theorem State.port_settle (s : State) (n : Client) :
    (s.settle).port n = s.port n := rfl

@[simp] theorem State.heartbeat_setEngine (s : State) (e : Engine) (n : Client) :
    (s.setEngine e).heartbeat n = s.heartbeat n := rfl

@[simp] theorem State.heartbeat_setPort (s : State) (m : Client) (x : Port ClientKind) (n : Client) :
    (s.setPort m x).heartbeat n = s.heartbeat n := rfl

@[simp] theorem State.heartbeat_setMport (s : State) (x : Port MgmtKind) (n : Client) :
    (s.setMport x).heartbeat n = s.heartbeat n := rfl

@[simp] theorem State.heartbeat_setImages (s : State) (x : ImageStore) (n : Client) :
    (s.setImages x).heartbeat n = s.heartbeat n := rfl

@[simp] theorem State.heartbeat_serve (s : State) (m : Client) (n : Client) :
    (s.serve m).heartbeat n = s.heartbeat n := rfl

@[simp] theorem State.heartbeat_settle (s : State) (n : Client) :
    (s.settle).heartbeat n = s.heartbeat n := rfl

end Sys2Proof.Machine
end

