-- ==== Sys2Proof/Laws/Taking.lean ====
section
/-! SUPPORT. What taking a request can do: one lemma per shared operation of Machine/Arbiter.lean, in the terms of
Safety.lean. A proof about a request cites these and then looks only at the request's own rule. -/

namespace Sys2Proof.Machine

/-! ## What ARB hands -/

theorem handed_starting {s : State} (h : s.part = .starting) : s.handed = none := by simp [State.handed, h]

theorem part_of_handed {s : State} {c : Instr} (h : s.handed = some c) : s.part ≠ .starting := by
  intro hp
  simp [handed_starting hp] at h

/-! ## A request that is not handed -/

theorem takeClient_not_handed {s : State} {k : ClientKind} {n : Client} (h : s.handed ≠ some (k.command n))
    (rule : List Byte → State → State × Answer) : s.takeClient k n rule = s := by
  simp [State.takeClient, h]

theorem takeMgmt_not_handed {s : State} {k : MgmtKind} (h : s.handed ≠ some k.command)
    (rule : List Byte → State → State × Answer) : s.takeMgmt k rule = s := by
  simp [State.takeMgmt, h]

/-! ## A client request that is handed -/

theorem takeClient_handed {s : State} {k : ClientKind} {n : Client} {q : Request ClientKind}
    (h : s.handed = some (k.command n)) (hq : (s.port n).standing = .queued q)
    (rule : List Byte → State → State × Answer) : s.takeClient k n rule = s.answerClient n q rule := by
  simp [State.takeClient, h, hq]

@[simp] theorem clientRefusal_serve (s : State) (n m : Client) (q : Request ClientKind) :
    (s.serve m).clientRefusal n q = s.clientRefusal n q := rfl

/-- A refusal by the gating or the session checks answers the status alone. -/
theorem answerClient_refused {s : State} {n : Client} {q : Request ClientKind} {st : Status}
    (h : s.clientRefusal n q = some st) (rule : List Byte → State → State × Answer) :
    s.answerClient n q rule = s.afterClient n q s.engine (.bare st) := by
  simp only [State.answerClient, clientRefusal_serve, h]
  rfl

/-- A request that is not refused is answered by its own rule, on the state with the pointer moved. -/
theorem answerClient_passed {s : State} {n : Client} {q : Request ClientKind} (h : s.clientRefusal n q = none)
    (rule : List Byte → State → State × Answer) :
    s.answerClient n q rule =
      ((rule q.args (s.serve n)).1.placeClient n q.kind (rule q.args (s.serve n)).2).settle := by
  simp [State.answerClient, h]

theorem takeClient_admitted {s : State} {n : Client} {q : Request ClientKind} (h : s.admits n q)
    (rule : List Byte → State → State × Answer) :
    s.takeClient q.kind n rule =
      ((rule q.args (s.serve n)).1.placeClient n q.kind (rule q.args (s.serve n)).2).settle := by
  rw [takeClient_handed h.1 h.2.1, answerClient_passed h.2.2]

/-- A rule that changes nothing. -/
theorem placeClient_settle (s : State) (n : Client) (q : Request ClientKind) (a : Answer) :
    ((s.serve n).placeClient n q.kind a).settle = s.afterClient n q s.engine a := rfl

/-- A rule that changes the lease engine alone. -/
theorem placeClient_setEngine_settle (s : State) (n : Client) (q : Request ClientKind) (e : Engine) (a : Answer) :
    (((s.serve n).setEngine e).placeClient n q.kind a).settle = s.afterClient n q e a := rfl

/-! ## A management request that is handed -/

theorem takeMgmt_handed {s : State} {k : MgmtKind} {q : Request MgmtKind} (h : s.handed = some k.command)
    (hq : s.mport.standing = .queued q) (rule : List Byte → State → State × Answer) :
    s.takeMgmt k rule = s.answerMgmt q rule := by
  simp [State.takeMgmt, h, hq]

/-- A request that is not available answers the part state's status alone. -/
theorem answerMgmt_refused {s : State} {q : Request MgmtKind} (h : q.kind.available s.part = false)
    (rule : List Byte → State → State × Answer) :
    s.answerMgmt q rule = s.afterMgmt q s.engine (.bare (unavailableStatus s.part)) := by
  simp only [State.answerMgmt, h, Bool.false_eq_true, ↓reduceIte]
  rfl

theorem takeMgmt_admitted {s : State} {q : Request MgmtKind} (h : s.admitsMgmt q)
    (rule : List Byte → State → State × Answer) :
    s.takeMgmt q.kind rule = ((rule q.args s).1.placeMgmt q.kind (rule q.args s).2).settle := by
  rw [takeMgmt_handed h.1 h.2.1]
  simp [State.answerMgmt, h.2.2]

theorem placeMgmt_settle (s : State) (q : Request MgmtKind) (a : Answer) :
    (s.placeMgmt q.kind a).settle = s.afterMgmt q s.engine a := rfl

theorem placeMgmt_setEngine_settle (s : State) (q : Request MgmtKind) (e : Engine) (a : Answer) :
    ((s.setEngine e).placeMgmt q.kind a).settle = s.afterMgmt q e a := rfl

/-! ## Handles and numbers -/

theorem current_of_reaches {e : Engine} {w : Nat} {k : SlotId} {rec : Record} (h : e.reaches w k rec) :
    e.current (handleSlot w) (handleGeneration w) = some rec := by
  obtain ⟨rfl, hg, hr⟩ := h
  simp [Engine.current, hg, hr]

theorem current_of_stale {e : Engine} {w : Nat} (h : e.stale w) :
    e.current (handleSlot w) (handleGeneration w) = none := by
  rcases h with h | h <;> simp [Engine.current, h]

/-- A current handle of the sender's own record comes to the request's own rule. -/
theorem withHandle_own {s : State} {w : Nat} {k : SlotId} {rec : Record} (h : s.engine.reaches w k rec)
    (rule : SlotId → Record → State × Answer) : s.withHandle (some rec.client) w rule = rule k rec := by
  obtain ⟨rfl, hg, hr⟩ := h
  simp [State.withHandle, Engine.current, hg, hr]

/-- The management controller's current handle comes to the request's own rule. -/
theorem withHandle_management {s : State} {w : Nat} {k : SlotId} {rec : Record} (h : s.engine.reaches w k rec)
    (rule : SlotId → Record → State × Answer) : s.withHandle none w rule = rule k rec := by
  obtain ⟨rfl, hg, hr⟩ := h
  simp [State.withHandle, Engine.current, hg, hr]

theorem withHandle_stale {s : State} {w : Nat} (owner : Option Client) (h : s.engine.stale w)
    (rule : SlotId → Record → State × Answer) : s.withHandle owner w rule = (s, .bare .stale) := by
  simp [State.withHandle, current_of_stale h]

theorem withHandle_other {s : State} {w : Nat} {n : Client} {k : SlotId} {rec : Record} (h : s.engine.reaches w k rec)
    (hn : rec.client ≠ n) (rule : SlotId → Record → State × Answer) :
    s.withHandle (some n) w rule = (s, .bare .notHolder) := by
  obtain ⟨rfl, hg, hr⟩ := h
  simp [State.withHandle, Engine.current, hg, hr, hn]

theorem withResource_of_val {s : State} {number : Nat} {r : ResourceId} (h : r.val = number)
    (rule : ResourceId → State × Answer) : s.withResource number rule = rule r := by
  subst h
  simp [State.withResource]

theorem withResource_above {s : State} {number : Nat} (h : 32 ≤ number) (rule : ResourceId → State × Answer) :
    s.withResource number rule = (s, .bare .noResource) := by
  simp [State.withResource, Nat.not_lt.mpr h]

theorem withClient_of_val {s : State} {number : Nat} {n : Client} (h : n.val = number)
    (rule : Client → State × Answer) : s.withClient number rule = rule n := by
  subst h
  simp [State.withClient]

theorem withClient_above {s : State} {number : Nat} (h : 6 ≤ number) (rule : Client → State × Answer) :
    s.withClient number rule = (s, .bare .badArg) := by
  simp [State.withClient, Nat.not_lt.mpr h]

end Sys2Proof.Machine
end

