-- ==== Sys2Proof/Laws/Engine.lean ====
section
/-! SUPPORT. What each shared operation of the lease engine does, in the terms of Safety.lean: finding records,
freeing, leaving a holder set or a queue, ending a resource's records, clearing the engine. -/

namespace Sys2Proof.Machine

/-! ## Finding -/

/-- The search of a table in index order ends at the least index that passes. -/
theorem find_least {n : Nat} (p : Fin n → Bool) (k : Fin n) (hk : p k = true) (hl : ∀ j, j < k → p j = false) :
    (List.finRange n).find? p = some k := by
  rw [List.find?_eq_some_iff_append]
  refine ⟨hk, (List.finRange n).take k, (List.finRange n).drop (k + 1), ?_, ?_⟩
  · conv_lhs => rw [← List.take_append_drop k (List.finRange n)]
    congr 1
    rw [List.drop_eq_getElem_cons (by simp)]
    simp
  · intro j hj
    rw [List.mem_take_iff_getElem] at hj
    obtain ⟨i, hi, rfl⟩ := hj
    simp only [List.length_finRange, lt_inf_iff, List.getElem_finRange, Fin.cast_mk, Bool.not_eq_eq_eq_not,
      Bool.not_true] at hi ⊢
    exact hl _ (by simp [Fin.lt_def]; omega)

theorem firstWhere_isSome (e : Engine) (p : Record → Bool) :
    (e.firstWhere p).isSome = true ↔ ∃ k, (e.record k).any p = true := by
  simp [Engine.firstWhere]

theorem firstWhere_none (e : Engine) (p : Record → Bool) :
    e.firstWhere p = none ↔ ∀ k, (e.record k).any p = false := by
  simp [Engine.firstWhere]

/-- The search finds the lowest-numbered slot whose record passes. -/
theorem firstWhere_least {e : Engine} {p : Record → Bool} {k : SlotId} (hk : (e.record k).any p = true)
    (hl : ∀ j, j < k → (e.record j).any p = false) : e.firstWhere p = some k := find_least _ k hk hl

/-- The lowest-numbered FREE slot (R5). -/
theorem firstFree_of_lowestFree {e : Engine} {k : SlotId} (h : e.lowestFree k) : e.firstFree = some k := by
  refine find_least _ k (by simp [h.1]) fun j hj => ?_
  cases hr : e.record j with
  | none => exact absurd hr (h.2 j hj)
  | some rec => rfl

theorem firstFree_none (e : Engine) : e.firstFree = none ↔ ∀ k, e.record k ≠ none := by
  simp only [Engine.firstFree, List.find?_eq_none, List.mem_finRange, true_implies]
  refine forall_congr' fun k => ?_
  cases e.record k <;> simp

theorem usedSlots_eq (e : Engine) :
    e.usedSlots = (List.finRange 64).countP fun k => (e.record k).isSome := by
  simp only [Engine.usedSlots, Engine.countWhere]
  refine List.countP_congr fun k _ => ?_
  cases e.record k <;> simp

theorem standingSessions_eq (e : Engine) :
    e.standingSessions = (List.finRange 6).countP fun n => decide ((e.session n).state ≠ .closed) := by
  simp only [Engine.standingSessions]
  congr 1
  funext n
  cases (e.session n).state <;> rfl

theorem noticed_eq (n : Client) (rec : Record) :
    Record.noticed n rec = (decide (rec.client = n) && decide (rec.unseen ≠ .empty)) := by
  unfold Record.noticed
  congr 1
  obtain ⟨a, b, c, d, e⟩ := rec.unseen
  cases a <;> cases b <;> cases c <;> cases d <;> cases e <;> rfl

/-- R139: client `n` owns a record whose unseen set is not empty. -/
theorem hasNotice_iff (e : Engine) (n : Client) :
    e.hasNotice n = true ↔
      ∃ k, ((e.record k).any fun rec => decide (rec.client = n) && decide (rec.unseen ≠ .empty)) = true := by
  rw [Engine.hasNotice, firstWhere_isSome]
  simp only [show Record.noticed n = fun rec => decide (rec.client = n) && decide (rec.unseen ≠ .empty) from
    funext (noticed_eq n)]

/-- R114: some held record on `r` carries the fence. -/
theorem carries_iff (e : Engine) (r : ResourceId) (f : Nat) :
    (e.firstWhere (Record.carries r f)).isSome = true ↔
      ∃ k rec h, e.record k = some rec ∧ rec.resource = r ∧ rec.standing = .held h ∧ h.fence = f := by
  rw [firstWhere_isSome]
  constructor
  · rintro ⟨k, hk⟩
    cases hr : e.record k with
    | none => simp [hr] at hk
    | some rec =>
      cases hs : rec.standing <;> simp_all [Record.carries]
      exact ⟨k, rec, hr, hk.1, _, hs, hk.2⟩
  · rintro ⟨k, rec, h, h1, h2, h3, h4⟩
    exact ⟨k, by simp [h1, Record.carries, h3, h2, h4]⟩

/-! ## ACQUIRE's questions -/

/-- R50. -/
theorem grantable_iff (e : Engine) (r : ResourceId) (m : Mode) : e.grantable r m = true ↔ e.atOnce r m := by
  unfold Engine.grantable Engine.atOnce
  cases m <;> simp

/-- R52: no live record of the client names the resource. -/
theorem firstLive_none {e : Engine} {n : Client} {r : ResourceId} (h : ∀ k, ¬ e.liveAt n r k) :
    e.firstWhere (Record.liveOf n r) = none := by
  rw [firstWhere_none]
  intro k
  have := h k
  rw [Bool.not_eq_true] at this
  exact this

/-- R51: what passes steps 2 to 5, and is grantable at once or may wait, is not refused. -/
theorem acquireRefusal_none {e : Engine} {n : Client} {r : ResourceId} {a : AcquireArgs}
    (h : e.acquirable n r a.mode)
    (hw : e.atOnce r a.mode ∨ (a.patience ≠ 0 ∧ (e.run r).queue.length < (e.defn r).queueLimit)) :
    e.acquireRefusal n r a = none := by
  obtain ⟨h1, h2, h3, h4, h5⟩ := h
  simp only [Engine.acquireRefusal, firstLive_none h4, h1, h2, not_true_eq_false, or_self, if_false, if_neg h3,
    if_neg (Nat.not_le.mpr h5)]
  rcases hw with hw | ⟨h6, h7⟩
  · simp [(grantable_iff e r a.mode).mpr hw]
  · simp [h6, Nat.not_le.mpr h7]

/-! ## Freeing and leaving -/

theorem Slot.freed_eq (x : Slot) :
    x.freed = { generation := if x.record = none then x.generation else (x.generation + 1) % 1024, record := none } := by
  obtain ⟨g, rec⟩ := x
  cases rec <;> rfl

/-- R6. -/
theorem freeSlot_eq {e : Engine} {k : SlotId} {rec : Record} (h : e.record k = some rec) :
    e.freeSlot k = e.vacated k rec := by
  simp only [Engine.freeSlot, h, Slot.freed_eq, Engine.vacated]
  rw [show (e.slot k).record = some rec from h]
  rfl

theorem freeSlot_free {e : Engine} {k : SlotId} (h : e.record k = none) : e.freeSlot k = e := by
  simp [Engine.freeSlot, h]

/-- R43. -/
theorem depart_eq (e : Engine) (r : ResourceId) (m : Mode) : e.depart r m = e.left r m := by
  simp only [Engine.depart, Engine.left]
  cases m <;> cases hs : (e.run r).state <;> simp [departedState]

/-- R45. -/
theorem leaveQueue_eq (e : Engine) (r : ResourceId) (k : SlotId) : e.leaveQueue r k = e.unqueued r k := rfl

/-- R100. -/
theorem Record.revoke_eq (c : Cause) (rec : Record) : rec.revoke c = rec.revokedBy c := rfl

/-- Admission stops at once in QUARANTINE and OFFLINE (R57). -/
theorem admission_quarantine {e : Engine} {r : ResourceId} {q : Nat} (h : (e.run r).state = .quarantine q) :
    e.admission r = e := by simp only [Engine.admission, Engine.admitPasses, h]

theorem admission_offline {e : Engine} {r : ResourceId} (h : (e.run r).state = .offline) : e.admission r = e := by
  simp only [Engine.admission, Engine.admitPasses, h]

/-- The band rule changes bands and held records alone (R90, R94). -/
@[simp] theorem bandRule_generation (e : Engine) (r : ResourceId) (k : SlotId) :
    ((e.bandRule r).slot k).generation = (e.slot k).generation := by
  simp only [Engine.bandRule]
  split <;> simp [Engine.squeeze, Engine.setBand]

/-- The squeeze leaves a record that is not held as it is (R94). -/
theorem bandRule_record_of_not_held {e : Engine} {r : ResourceId} {k : SlotId} {rec : Record}
    (h : e.record k = some rec) (hs : rec.isHeld = false) : (e.bandRule r).record k = some rec := by
  have hq : ∀ lead c, rec.squeeze lead c = rec := by
    intro lead c
    unfold Record.squeeze
    cases hst : rec.standing with
    | held h => simp [Record.isHeld, Standing.isHeld, hst] at hs
    | _ => rfl
  simp only [Engine.bandRule]
  split
  · simp [Engine.squeeze, Engine.setBand, h, hq]
  · simp [Engine.setBand, h]

@[simp] theorem bandRule_sessions (e : Engine) (r : ResourceId) : (e.bandRule r).sessions = e.sessions := by
  simp only [Engine.bandRule]
  split <;> rfl

@[simp] theorem bandRule_profiles (e : Engine) (r : ResourceId) : (e.bandRule r).profiles = e.profiles := by
  simp only [Engine.bandRule]
  split <;> rfl

@[simp] theorem bandRule_faults (e : Engine) (r : ResourceId) : (e.bandRule r).faults = e.faults := by
  simp only [Engine.bandRule]
  split <;> rfl

/-! ## Ending every record -/

/-- What R112 makes of one record on the resource. -/
theorem Record.ended_eq (rec : Record) :
    (rec.revoke .offline).lapse .offline =
      match rec.standing with
      | .held h => { rec with standing := .revoked h.fence .offline, unseen := { rec.unseen with revoked := true } }
      | .waiting _ => { rec with standing := .lapsed .offline, unseen := { rec.unseen with lapsed := true } }
      | _ => rec := by
  unfold Record.revoke Record.lapse
  cases hs : rec.standing <;> simp [hs]

/-- R112. -/
theorem takeDown_eq (e : Engine) (r : ResourceId) : e.takeDown r = e.downed r (e.run r).spent := by
  simp only [Engine.takeDown, Engine.downed, Record.ended_eq, Run.offline, Engine.run_mapRecords] <;> rfl

/-- R33. -/
theorem exhaust_eq (e : Engine) (r : ResourceId) :
    e.exhaust r = { e.downed r true with
      faults := { e.faults with fenceSpent := some (e.faults.fenceSpent.getD r) } } := by
  simp only [Engine.exhaust, takeDown_eq, Engine.downed, Faults.raiseFenceSpent, Engine.run_setRun_self]
  simp [Engine.setRun, Table.put, Table.get, Engine.mapRecords]

theorem Run.emptied_eq (x : Run) :
    x.emptied = { state := if x.state = .offline then .offline else .free, holders := 0, band := 0, fence := x.fence
                  spent := x.spent, queue := [] } := by
  unfold Run.emptied
  split <;> rfl

/-- R170 steps 1 to 3, and R171. -/
theorem emptied_eq (e : Engine) : e.emptied = e.cleared := by
  simp only [Engine.emptied, Engine.cleared, Engine.mapRuns, Engine.closeAll, Engine.freeAll, Run.emptied_eq,
    Slot.freed_eq, Engine.session, Table.get_tab]
  rfl

/-! ## Admission (R57, R58) -/

/-- R44: a WAITING record at the head. -/
theorem head_of_headed {e : Engine} {r : ResourceId} {k : SlotId} {rec : Record} (h : e.headed r k rec) :
    e.head r = some (k, rec) := by
  obtain ⟨h1, h2, h3⟩ := h
  unfold Engine.head
  split
  · simp_all
  · rename_i j q hq
    rw [hq, List.head?_cons, Option.some.injEq] at h1
    subst h1
    simp [h2, h3]

/-- No WAITING record at the head. -/
theorem head_none {e : Engine} {r : ResourceId} (h : ∀ k rec, ¬ e.headed r k rec) : e.head r = none := by
  unfold Engine.head
  split
  · rfl
  · rename_i j q hq
    cases hr : e.record j with
    | none => rfl
    | some rec =>
      have := h j rec
      simp only [Engine.headed, hq, List.head?_cons, hr, true_and] at this
      simp [this]

@[simp] theorem bandRule_defn (e : Engine) (r r' : ResourceId) : (e.bandRule r).defn r' = e.defn r' := by
  simp only [Engine.bandRule]
  split <;> simp [Engine.squeeze, Engine.setBand]

@[simp] theorem bandRule_fence (e : Engine) (r r' : ResourceId) : ((e.bandRule r).run r').fence = (e.run r').fence := by
  simp only [Engine.bandRule]
  split <;> by_cases h : r = r' <;> simp [Engine.squeeze, Engine.setBand, Engine.run_setRun, h]

@[simp] theorem bandRule_queue (e : Engine) (r r' : ResourceId) : ((e.bandRule r).run r').queue = (e.run r').queue := by
  simp only [Engine.bandRule]
  split <;> by_cases h : r = r' <;> simp [Engine.squeeze, Engine.setBand, Engine.run_setRun, h]

/-- R58, R42 and R33. -/
theorem grantHead_eq (e : Engine) (r : ResourceId) (k : SlotId) (rec : Record) :
    e.grantHead r k rec = e.granted r k rec := by
  unfold Engine.grantHead Engine.granted
  by_cases hf : Config.fenceMax ≤ (e.run r).fence
  · simp only [Engine.fenceFull, hf, decide_true, if_true, exhaust_eq]
  · simp only [Engine.fenceFull, hf, decide_false, Bool.false_eq_true, if_false]
    have hd : (e.unqueued r k).defn r = e.defn r := by simp [Engine.unqueued, bandRule_defn]
    have hg : ((e.unqueued r k).slot k).generation = (e.slot k).generation := by simp [Engine.unqueued]
    simp only [leaveQueue_eq, Engine.putRecord, Engine.joinHolders, Engine.slot_setRun, hg, hd, grantedHeld,
      Record.grant, heldState, Engine.ceiling]
    cases rec.mode <;> rfl

/-- A grant in place shortens the queue by one. -/
theorem granted_length {e : Engine} {r : ResourceId} {k : SlotId} {rec : Record} (h : e.headed r k rec)
    (hf : (e.run r).fence < Config.fenceMax) :
    ((e.granted r k rec).run r).queue.length + 1 = (e.run r).queue.length := by
  obtain ⟨h1, -, -⟩ := h
  cases hq : (e.run r).queue with
  | nil => simp [hq] at h1
  | cons j q =>
    rw [hq, List.head?_cons, Option.some.injEq] at h1
    subst h1
    simp [Engine.granted, Nat.not_le.mpr hf, Engine.unqueued, bandRule_queue, hq]


/-- Of a resource that is OFFLINE no pass of admission changes anything. -/
theorem admitPasses_offline {e : Engine} {r : ResourceId} (fuel : Nat) (h : (e.run r).state = .offline) :
    Engine.admitPasses fuel e r = e := by
  cases fuel <;> simp [Engine.admitPasses, h]

theorem exhausted_state (e : Engine) (r : ResourceId) : ((e.exhausted r).run r).state = .offline := by
  simp [Engine.downed, Engine.run, Engine.setRun, Table.get, Table.put]

/-- What a grant from the queue leaves: the resource OFFLINE, or one waiter fewer and the state of the mode. -/
theorem granted_cases {e : Engine} {r : ResourceId} {k : SlotId} {rec : Record} (h : e.headed r k rec) :
    ((e.granted r k rec).run r).state = .offline ∨
    (((e.granted r k rec).run r).state = rec.mode.grantedState ∧
      ((e.granted r k rec).run r).queue.length + 1 = (e.run r).queue.length) := by
  by_cases hf : Config.fenceMax ≤ (e.run r).fence
  · left
    have : e.granted r k rec = e.exhausted r := if_pos hf
    rw [this, exhausted_state]
  · refine .inr ⟨?_, granted_length h (Nat.lt_of_not_le hf)⟩
    simp only [Engine.granted, hf, if_false, Engine.run_setSlot, Engine.run_setRun_self]
    cases rec.mode <;> rfl

/-- Outside DRAINING each pass of admission but the last grants a waiter, so that more passes than waiters make no
difference. -/
theorem admitPasses_fuel {r : ResourceId} {f g : Nat} {e : Engine} (hd : (e.run r).state ≠ .draining)
    (hf : (e.run r).queue.length < f) (hg : (e.run r).queue.length < g) :
    Engine.admitPasses f e r = Engine.admitPasses g e r := by
  induction f generalizing e g with
  | zero => omega
  | succ f ih =>
    obtain ⟨g, rfl⟩ : ∃ g', g = g' + 1 := ⟨g - 1, by omega⟩
    have step : ∀ k rec, e.headed r k rec → rec.mode = .shared →
        Engine.admitPasses f (e.grantHead r k rec) r = Engine.admitPasses g (e.grantHead r k rec) r := by
      intro k rec h hm
      rw [grantHead_eq]
      rcases granted_cases h with ho | ⟨hs, hl⟩
      · rw [admitPasses_offline _ ho, admitPasses_offline _ ho]
      · exact ih (by simp [hs, hm, Mode.grantedState]) (by omega) (by omega)
    by_cases hh : ∃ k rec, e.headed r k rec
    · obtain ⟨k, rec, hh⟩ := hh
      simp only [Engine.admitPasses, head_of_headed hh]
      cases hs : (e.run r).state <;> simp only
      · cases hm : rec.mode <;> simp only
        rw [step k rec hh hm]
      · cases hm : rec.mode <;> simp only
        rw [step k rec hh hm]
      · exact absurd hs hd
    · push Not at hh
      simp only [Engine.admitPasses, head_none hh]
      cases hs : (e.run r).state <;> simp only
      exact absurd hs hd

/-- The passes of admission from a state other than DRAINING, however many more than waiters. -/
theorem admission_eq {r : ResourceId} {f : Nat} {e : Engine} (hd : (e.run r).state ≠ .draining)
    (hf : (e.run r).queue.length < f) : Engine.admitPasses f e r = e.admission r :=
  admitPasses_fuel hd hf (by omega)

/-! ## The end of a session (R122, R124) -/

/-- R122 step 1. -/
theorem endRecord_eq (n : Client) : Engine.endRecord n = Engine.endedAt n := by
  funext e k
  unfold Engine.endRecord Engine.endedAt
  cases hr : e.record k with
  | none => rfl
  | some rec =>
    by_cases hn : rec.client = n
    · simp only [hn, if_true]
      cases hs : rec.standing with
      | held h =>
        have hh : rec.isHeld = true := by simp [Record.isHeld, Standing.isHeld, hs]
        rw [if_pos hh, depart_eq, freeSlot_eq (rec := rec) (by simp [hr])]
      | waiting p =>
        have hh : rec.isHeld = false := by simp [Record.isHeld, Standing.isHeld, hs]
        have hw : rec.isWaiting = true := by simp [Record.isWaiting, Standing.isWaiting, hs]
        rw [hh, if_neg (by simp), if_pos hw, leaveQueue_eq,
          freeSlot_eq (rec := rec) (bandRule_record_of_not_held (by simp [hr]) hh)]
      | _ =>
        simp only [Record.isHeld, Standing.isHeld, Record.isWaiting, Standing.isWaiting, hs, Bool.false_eq_true, if_false,
          freeSlot_eq hr]
    · simp only [hn, if_false]

/-- A record that changed in its slot before the slot was freed leaves no trace (R6). -/
theorem vacated_putRecord (e : Engine) (k : SlotId) {rec rec' : Record} (hc : rec'.client = rec.client) :
    (e.putRecord k rec').vacated k rec' = e.vacated k rec := by
  simp only [Engine.vacated, Engine.generation_putRecord, Engine.session_putRecord, hc]
  simp [Engine.setSession, Engine.putRecord, Engine.setSlot, Table.put]

theorem Record.revoke_client (c : Cause) (rec : Record) : (rec.revoke c).client = rec.client := by
  unfold Record.revoke
  split <;> rfl

/-- R124 step 1. -/
theorem barRecord_eq (n : Client) : Engine.barRecord n = Engine.barredAt n := by
  funext e k
  unfold Engine.barRecord Engine.barredAt
  cases hr : e.record k with
  | none => rfl
  | some rec =>
    by_cases hn : rec.client = n
    · simp only [hn, if_true]
      cases hs : rec.standing with
      | held h =>
        have hh : rec.isHeld = true := by simp [Record.isHeld, Standing.isHeld, hs]
        have hv := fun E : Engine => vacated_putRecord E k (Record.revoke_client .barred rec)
        have hq : startsQuarantine rec.mode (e.defn rec.resource).quarantine .barred =
            decide (rec.mode = .exclusive ∧ (e.defn rec.resource).quarantine ≠ 0) := by
          rw [Bool.eq_iff_iff]
          simp [startsQuarantine]
        rw [if_pos hh]
        simp only [Engine.revoke, hr, hh, if_true, hq, decide_eq_true_eq]
        rw [freeSlot_eq (rec := rec.revoke .barred) (by split <;> simp [Engine.depart, Engine.setState])]
        rw [← hv]
        split <;> rw [depart_eq] <;> rfl
      | waiting p =>
        have hh : rec.isHeld = false := by simp [Record.isHeld, Standing.isHeld, hs]
        have hw : rec.isWaiting = true := by simp [Record.isWaiting, Standing.isWaiting, hs]
        rw [hh, if_neg (by simp), if_pos hw, leaveQueue_eq,
          freeSlot_eq (rec := rec) (bandRule_record_of_not_held (by simp [hr]) hh)]
      | _ =>
        simp only [Record.isHeld, Standing.isHeld, Record.isWaiting, Standing.isWaiting, hs, Bool.false_eq_true, if_false,
          freeSlot_eq hr]
    · simp only [hn, if_false]

theorem claims_eq (e : Engine) (n : Client) (r : ResourceId) : e.claims n r = decide (∃ k, e.liveAt n r k) := by
  rw [Bool.eq_iff_iff, Engine.claims, firstWhere_isSome, decide_eq_true_iff]
  rfl

/-- R122, steps 1 and 2. -/
theorem endSession_eq (e : Engine) (n : Client) : e.endSession n = e.sessionEnded n := by
  unfold Engine.endSession Engine.sessionEnded Engine.admissionWhere Engine.claimedBy
  rw [endRecord_eq]
  rw [show Engine.claims e n = fun r => decide (∃ k, e.liveAt n r k) from funext (claims_eq e n)]

/-- R124, steps 1 and 2. -/
theorem barSession_eq (e : Engine) (n : Client) : e.barSession n = e.sessionBarred n := by
  unfold Engine.barSession Engine.sessionBarred Engine.admissionWhere Engine.claimedBy
  rw [barRecord_eq]
  rw [show Engine.claims e n = fun r => decide (∃ k, e.liveAt n r k) from funext (claims_eq e n)]

/-! ## Ports -/

/-- R152's table. -/
theorem deliver_deliversTo {κ : Type} (p : Port κ) (header : Byte) (c : Checked κ) :
    p.deliversTo header c (p.deliver header c) := by
  unfold Port.deliversTo Port.deliver
  cases p.standing <;> cases c <;> simp [Port.place, Port.cleared]

@[simp] theorem serves_served (s : State) : s.serves .served = !s.resetPin := by simp [State.serves]

@[simp] theorem serves_passedOver (s : State) : s.serves .passedOver = false := rfl

@[simp] theorem serves_cutByReset (s : State) : s.serves .cutByReset = false := rfl

/-- R151. -/
theorem serves_pin {s : State} (h : s.resetPin = true) (select : Select) : s.serves select = false := by
  simp [State.serves, h]

/-- The table of R154 and R165. -/
theorem afterFetch_fetchesTo {κ : Type} (p : Port κ) (n : Nat) : p.fetchesTo n p.fetchBytes (p.afterFetch n) := by
  unfold Port.fetchesTo Port.fetchBytes Port.afterFetch
  cases p.standing with
  | idle => exact ⟨rfl, rfl⟩
  | queued q => exact ⟨rfl, rfl⟩
  | ready resp =>
    refine ⟨rfl, ?_⟩
    by_cases h : resp.length < n
    · rw [if_pos h]
      exact if_pos (by omega)
    · rw [if_neg h]
      exact if_neg (by omega)

end Sys2Proof.Machine
end

