-- ==== Sys2Proof/Laws/Memory.lean ====
section
/-! SUPPORT. The addressed buffers: a read after a write, and the canonical form that every operation keeps. -/

namespace Sys2Proof.Machine

/-! ## Reading -/

@[simp] theorem Memory.read_nil (a : Nat) : Memory.read [] a = 0 := rfl

theorem Memory.read_cons (m : Memory) (a b : Nat) (v : Byte) (hm : m.read a = 0) :
    (Memory.cons a v m).read b = if a = b then v else m.read b := by
  unfold Memory.cons
  by_cases hv : v = Memory.unlisted
  · subst hv
    by_cases h : a = b
    · subst h; simpa [Memory.unlisted] using hm
    · simp [h]
  · simp [hv, Memory.read]

/-- Below the first address that a canonical buffer may list, every byte is the unlisted one. -/
theorem Memory.read_below {m : Memory} {a b : Nat} (h : Memory.wfFrom a m = true) (hb : b < a) : m.read b = 0 := by
  induction m generalizing a with
  | nil => rfl
  | cons c m ih =>
    obtain ⟨x, v⟩ := c
    simp only [Memory.wfFrom, Bool.and_eq_true, decide_eq_true_eq] at h
    have hx : x ≠ b := by omega
    simp only [Memory.read, if_neg hx]
    exact ih h.2 (by omega)

/-! ## The canonical form -/

theorem Memory.wfFrom_mono {m : Memory} {a b : Nat} (h : Memory.wfFrom b m = true) (hab : a ≤ b) :
    Memory.wfFrom a m = true := by
  cases m with
  | nil => rfl
  | cons c m =>
    obtain ⟨x, v⟩ := c
    simp only [Memory.wfFrom, Bool.and_eq_true, decide_eq_true_eq] at h ⊢
    exact ⟨⟨⟨by omega, h.1.1.2⟩, h.1.2⟩, h.2⟩

theorem Memory.wfFrom_cons {m : Memory} {a : Nat} {v : Byte} (h : Memory.wfFrom (a + 1) m = true)
    (ha : a < Config.imageBytes) : Memory.wfFrom a (Memory.cons a v m) = true := by
  unfold Memory.cons
  split
  · exact Memory.wfFrom_mono h (Nat.le_succ a)
  · rename_i hv
    simp [Memory.wfFrom, ha, hv, h]

/-- A write inside the buffer keeps the canonical form from any address not above the one written. -/
theorem Memory.wfFrom_write {m : Memory} {a b : Nat} (v : Byte) (h : Memory.wfFrom b m = true) (hb : b ≤ a)
    (ha : a < Config.imageBytes) : Memory.wfFrom b (m.write a v) = true := by
  induction m generalizing b with
  | nil => exact Memory.wfFrom_mono (Memory.wfFrom_cons rfl ha) hb
  | cons c m ih =>
    obtain ⟨x, w⟩ := c
    have h' := h
    simp only [Memory.wfFrom, Bool.and_eq_true, decide_eq_true_eq] at h'
    unfold Memory.write
    split
    · refine Memory.wfFrom_mono (Memory.wfFrom_cons ?_ ha) hb
      simp only [Memory.wfFrom, Bool.and_eq_true, decide_eq_true_eq]
      exact ⟨⟨⟨by omega, h'.1.1.2⟩, h'.1.2⟩, h'.2⟩
    · split
      · rename_i h2
        subst h2
        exact Memory.wfFrom_mono (Memory.wfFrom_cons h'.2 ha) hb
      · simp only [Memory.wfFrom, Bool.and_eq_true, decide_eq_true_eq]
        exact ⟨⟨⟨h'.1.1.1, h'.1.1.2⟩, h'.1.2⟩, ih h'.2 (by omega)⟩

/-- A write inside the buffer keeps the canonical form. -/
theorem Memory.wf_write {m : Memory} {a : Nat} (v : Byte) (h : m.wf = true) (ha : a < Config.imageBytes) :
    (m.write a v).wf = true := Memory.wfFrom_write v h (Nat.zero_le a) ha

/-- A run of writes inside the buffer keeps the canonical form. -/
theorem Memory.wf_writeAll {m : Memory} {a : Nat} (l : List Byte) (h : m.wf = true)
    (ha : a + l.length ≤ Config.imageBytes) : (m.writeAll a l).wf = true := by
  induction l generalizing m a with
  | nil => exact h
  | cons v l ih =>
    simp only [List.length_cons] at ha
    exact ih (Memory.wf_write v h (by omega)) (by omega)

theorem Memory.wfFrom_ofBytes (a : Nat) (l : List Byte) (ha : a + l.length ≤ Config.imageBytes) :
    Memory.wfFrom a (Memory.ofBytes a l) = true := by
  induction l generalizing a with
  | nil => rfl
  | cons v l ih =>
    simp only [List.length_cons] at ha
    exact Memory.wfFrom_cons (ih (a + 1) (by omega)) (by omega)

/-- A buffer built from bytes that fit is canonical. -/
theorem Memory.wf_ofBytes (a : Nat) (l : List Byte) (ha : a + l.length ≤ Config.imageBytes) :
    (Memory.ofBytes a l).wf = true := Memory.wfFrom_mono (Memory.wfFrom_ofBytes a l ha) (Nat.zero_le a)

/-- The empty buffer is canonical. -/
@[simp] theorem Memory.wf_nil : Memory.wf [] = true := rfl

/-- Right after reset every buffer is canonical. -/
theorem State.reset_buffers_wf : State.reset.images.staging.wf = true ∧ State.reset.images.bankA.content.wf = true ∧
    State.reset.images.bankB.content.wf = true := ⟨rfl, rfl, rfl⟩

/-! ## A read after a write -/

theorem Memory.read_write_from {m : Memory} {c : Nat} (a b : Nat) (v : Byte) (h : Memory.wfFrom c m = true) :
    (m.write a v).read b = if a = b then v else m.read b := by
  induction m generalizing c with
  | nil => exact Memory.read_cons [] a b v rfl
  | cons x m ih =>
    obtain ⟨y, w⟩ := x
    have h' := h
    simp only [Memory.wfFrom, Bool.and_eq_true, decide_eq_true_eq] at h'
    unfold Memory.write
    split
    · rename_i hlt
      refine Memory.read_cons _ a b v ?_
      refine Memory.read_below (a := y) ?_ hlt
      simp only [Memory.wfFrom, Bool.and_eq_true, decide_eq_true_eq]
      exact ⟨⟨⟨by omega, h'.1.1.2⟩, h'.1.2⟩, h'.2⟩
    · split
      · rename_i h2
        subst h2
        rw [Memory.read_cons m a b v (Memory.read_below h'.2 (Nat.lt_succ_self a))]
        by_cases hb : a = b <;> simp [Memory.read, hb]
      · rename_i h1 h2
        simp only [Memory.read, ih h'.2]
        by_cases hy : y = b
        · have hne : a ≠ b := by omega
          simp [hy, hne]
        · simp [hy]

/-- A byte read after a write is the byte written, at the address written, and what it was anywhere else. -/
theorem Memory.read_write {m : Memory} (a b : Nat) (v : Byte) (h : m.wf = true) :
    (m.write a v).read b = if a = b then v else m.read b := Memory.read_write_from a b v h

/-- A byte read after a run of writes. -/
theorem Memory.read_writeAll {m : Memory} (a b : Nat) (l : List Byte) (h : m.wf = true)
    (ha : a + l.length ≤ Config.imageBytes) :
    (m.writeAll a l).read b = if a ≤ b ∧ b < a + l.length then l.getD (b - a) 0 else m.read b := by
  induction l generalizing m a with
  | nil => simp [Memory.writeAll, show ¬ (a ≤ b ∧ b < a) by omega]
  | cons v l ih =>
    simp only [List.length_cons] at ha ⊢
    rw [Memory.writeAll, ih (a + 1) (Memory.wf_write v h (by omega)) (by omega), Memory.read_write a b v h]
    by_cases h1 : a = b
    · subst h1
      simp
    · by_cases h2 : a + 1 ≤ b ∧ b < a + 1 + l.length
      · rw [if_pos h2, if_pos ⟨by omega, by omega⟩]
        obtain ⟨d, hd⟩ : ∃ d, b - a = d + 1 := ⟨b - a - 1, by omega⟩
        rw [hd, show b - (a + 1) = d by omega]
        rfl
      · rw [if_neg h2, if_neg h1, if_neg (by omega)]

/-- A byte of a buffer built from bytes that fit. -/
theorem Memory.read_ofBytes (a b : Nat) (l : List Byte) (ha : a + l.length ≤ Config.imageBytes) :
    (Memory.ofBytes a l).read b = if a ≤ b ∧ b < a + l.length then l.getD (b - a) 0 else 0 := by
  induction l generalizing a with
  | nil => simp [Memory.ofBytes]
  | cons v l ih =>
    simp only [List.length_cons] at ha ⊢
    rw [Memory.ofBytes, Memory.read_cons _ a b v
      (Memory.read_below (Memory.wfFrom_ofBytes (a + 1) l (by omega)) (Nat.lt_succ_self a)), ih (a + 1) (by omega)]
    by_cases h1 : a = b
    · subst h1
      simp
    · by_cases h2 : a + 1 ≤ b ∧ b < a + 1 + l.length
      · rw [if_neg h1, if_pos h2, if_pos ⟨by omega, by omega⟩]
        obtain ⟨d, hd⟩ : ∃ d, b - a = d + 1 := ⟨b - a - 1, by omega⟩
        rw [hd, show b - (a + 1) = d by omega]
        rfl
      · rw [if_neg h1, if_neg h2, if_neg (by omega)]

/-! ## Equal reads, equal buffers -/

theorem Memory.ext_from {m n : Memory} {a : Nat} (hm : Memory.wfFrom a m = true) (hn : Memory.wfFrom a n = true)
    (h : ∀ b, m.read b = n.read b) : m = n := by
  induction m generalizing n a with
  | nil =>
    cases n with
    | nil => rfl
    | cons c n =>
      obtain ⟨x, v⟩ := c
      simp only [Memory.wfFrom, Bool.and_eq_true, decide_eq_true_eq, bne_iff_ne, Memory.unlisted] at hn
      have := h x
      simp only [Memory.read, Memory.unlisted, if_pos] at this
      exact absurd this.symm hn.1.2
  | cons c m ih =>
    obtain ⟨x, v⟩ := c
    have hm' := hm
    simp only [Memory.wfFrom, Bool.and_eq_true, decide_eq_true_eq, bne_iff_ne, Memory.unlisted] at hm'
    cases n with
    | nil =>
      have := h x
      simp only [Memory.read, Memory.unlisted, if_pos] at this
      exact absurd this hm'.1.2
    | cons d n =>
      obtain ⟨y, w⟩ := d
      have hn' := hn
      simp only [Memory.wfFrom, Bool.and_eq_true, decide_eq_true_eq, bne_iff_ne, Memory.unlisted] at hn'
      have hx := h x
      have hy := h y
      simp only [Memory.read, if_pos] at hx hy
      have hxy : x = y := by
        rcases Nat.lt_trichotomy x y with hlt | heq | hgt
        · rw [if_neg (by omega), Memory.read_below hn'.2 (by omega)] at hx
          exact absurd hx hm'.1.2
        · exact heq
        · rw [if_neg (by omega), Memory.read_below hm'.2 (by omega)] at hy
          exact absurd hy.symm hn'.1.2
      subst hxy
      rw [if_pos rfl] at hx
      subst hx
      have : m = n := ih hm'.2 hn'.2 fun b => by
        have hb := h b
        simp only [Memory.read] at hb
        by_cases hxb : x = b
        · subst hxb
          rw [Memory.read_below hm'.2 (Nat.lt_succ_self x), Memory.read_below hn'.2 (Nat.lt_succ_self x)]
        · simpa [hxb] using hb
      rw [this]

/-- Two canonical buffers that read alike are the same buffer. -/
theorem Memory.ext {m n : Memory} (hm : m.wf = true) (hn : n.wf = true) (h : ∀ b, m.read b = n.read b) : m = n :=
  Memory.ext_from hm hn h

end Sys2Proof.Machine
end

