-- ==== Sys2Proof/Tests/Slice0.lean ====
section
/-! SUPPORT. Tests: small ones of single happenings, their expected results taken from the manual's worked sequences
and tables (named in each docstring), and for every statement a witness that its hypotheses are met together, one for
each clause. -/

namespace Sys2Proof.Machine.Tests

set_option Elab.async false

/-! ## Small states -/

/-- The state a command leaves. -/
def after (c : Instr) (s : State) : State :=
  match exec c s with
  | .next t => t
  | _ => s

/-- In SERVICE, every resource undefined. -/
def base : State := { State.reset with part := .service, running := true, load := none }

def opened (n : Client) (s : State) : State :=
  s.setEngine (s.engine.setSession n { s.engine.session n with state := .opened, epoch := 1 })

/-- A TOKEN resource of factory profile that goes into quarantine for 2 ticks. -/
def tokenDefn : Definition := { Definition.factory with defined := true, quarantine := 2 }

def lineDefn : Definition := { Definition.factory with defined := true, kind := .line, capacity := 1 }

def placed (r : ResourceId) (d : Definition) (x : Run) (s : State) : State :=
  s.setEngine ((s.engine.setDefn r d).setRun r x)

def running (st : ResourceState) (holders fence : Nat) (queue : List SlotId) : Run :=
  { state := st, holders := holders, band := 0, fence := fence, spent := false, queue := queue }

def recorded (k : SlotId) (rec : Record) (s : State) : State := s.setEngine (s.engine.create k rec)

def lease (n : Client) (r : ResourceId) (m : Mode) (asked : Nat) (st : Standing) : Record :=
  { client := n, resource := r, mode := m, asked := asked, tag := none, lineRenewable := true, unseen := .empty
    standing := st }

def heldFor (left fence : Nat) : Standing := .held { state := .active, remaining := left, fence := fence, renewals := 0 }

def creq (k : ClientKind) (args : List Byte) : Request ClientKind := { kind := k, epoch := 1, args := args }

def mreq (k : MgmtKind) (args : List Byte) : Request MgmtKind := { kind := k, epoch := 0, args := args }

def asking (n : Client) (q : Request ClientKind) (s : State) : State :=
  s.setPort n { standing := .queued q, overlap := false, priorDiscarded := false }

def telling (q : Request MgmtKind) (s : State) : State :=
  s.setMport { standing := .queued q, overlap := false, priorDiscarded := false }

/-- Clients 0 and 1 have OPEN sessions and resource 16 is FREE. -/
def free16 : State := placed 16 tokenDefn (running .free 0 0 []) (opened 1 (opened 0 base))

/-- Client 0 holds resource 16 EXCLUSIVE in slot 0 with fence 1 and `left` ticks. -/
def held16 (left : Nat) : State :=
  recorded 0 (lease 0 16 .exclusive 10 (heldFor left 1))
    (placed 16 tokenDefn (running .exclusive 1 1 []) (opened 1 (opened 0 base)))

/-- The same with client 1 waiting in slot 1 with patience `p`. -/
def busy16 (left : Nat) (p : Patience) : State :=
  recorded 1 (lease 1 16 .exclusive 10 (.waiting p))
    (recorded 0 (lease 0 16 .exclusive 10 (heldFor left 1))
      (placed 16 tokenDefn (running .exclusive 1 1 [1]) (opened 1 (opened 0 base))))

/-- Resource 16 rests in QUARANTINE for `q` ticks. -/
def quarantine16 (q : Nat) : State := placed 16 tokenDefn (running (.quarantine q) 0 1 []) (opened 1 (opened 0 base))

/-- Client 0 owns a tombstone in slot 0. -/
def tombstone (st : Standing) (u : Unseen) : State :=
  recorded 0 { lease 0 16 .exclusive 10 st with unseen := u } free16

def revokedSeen : Unseen := { Unseen.empty with revoked := true }

def lapsedSeen : Unseen := { Unseen.empty with lapsed := true }

def isNext (o : Host.Outcome State Fault Refusal) : Bool :=
  match o with
  | .next _ => true
  | _ => false

/-- The response bytes that wait in a port. -/
def responseOf {κ : Type} (p : Port κ) : List Byte :=
  match p.standing with
  | .ready l => l
  | _ => []

/-- Status and content of a client's response: bytes 0 and 4 up to the check byte (12.3). -/
def answerOf {κ : Type} (p : Port κ) : List Byte := (responseOf p).take 1 ++ ((responseOf p).drop 4).dropLast

/-! ## Well-formedness -/

/-- A request transaction whose header is the FETCH code is a fetch, not this row (R148). -/
theorem test_fetch_header_is_no_request : (Instr.requestTransaction 0 .served [0xA5, 0x00] 0).wellFormed = false := by decide

theorem test_request_is_well_formed : (Instr.requestTransaction 0 .served [0x01, 0x00] 0).wellFormed = true := by decide

/-- A read-back names a byte position once (R184). -/
theorem test_misread_names_a_byte_once : (Instr.burnEnd [(5, 1), (5, 2)]).wellFormed = false := by decide

theorem test_misread_is_well_formed : (Instr.burnEnd [(5, 1), (6, 1)]).wellFormed = true := by decide

/-- No word spells a command: the table gives no bits. -/
theorem test_no_word_spells_a_command : decodeTableWord 8 0x10 = none := by decide

/-! ## Check sums and frames (R149, R180, 12.2, 12.3) -/

/-- The nine bytes "123456789", the usual check string of a CRC. -/
def checkString : List Byte := [0x31, 0x32, 0x33, 0x34, 0x35, 0x36, 0x37, 0x38, 0x39]

/-- The check value of the CRC-8 with polynomial 0x07 and initial value 0. -/
theorem test_crc8 : crc8 checkString = 0xF4 := by decide +kernel

/-- The check value of the CRC-16 with polynomial 0x1021 and initial value 0xFFFF. -/
theorem test_crc16 : crc16 checkString = 0x29B1 := by decide +kernel

/-- A frame followed by its own CRC-8 has CRC-8 0; STATUS at epoch 1 written out byte by byte. -/
theorem test_status_frame : crc8 [0x03, 0x01, 0x00, crc8 [0x03, 0x01, 0x00]] = 0 ∧
    checkClientFrame [0x03, 0x01, 0x00, crc8 [0x03, 0x01, 0x00]] = .request (creq .status []) := by decide +kernel

/-- ACQUIRE of resource 3, EXCLUSIVE, term 200 = 0x00C8, patience UNBOUNDED = 0xFFFF, line-renewable no (12.2). -/
theorem test_acquire_arguments :
    acquireArgs [0x03, 0x00, 0x00, 0xC8, 0xFF, 0xFF, 0x00] =
      some { resource := 3, mode := .exclusive, term := 200, patience := 65535, lineRenewable := false, tag := none } := by
  decide

/-- Handle 12/5, slot in the top six bits (R3, R191): 12 * 1024 + 5 = 0x3005. -/
theorem test_handle_bytes : handleBytes 12 5 = [0x30, 0x05] ∧ handleSlot 0x3005 = 12 ∧ handleGeneration 0x3005 = 5 := by
  decide

/-- A refusal carries the status alone and is 5 bytes long (R192); flag bit 0 is OVERLAP (12.3). -/
theorem test_refusal_is_five_bytes : (response true false 0x10 (.bare .quota)).take 4 = [0x10, 0x01, 0x10, 0x05] ∧
    (response true false 0x10 (.bare .quota)).length = 5 := by decide +kernel

/-! ## The client link and the management bus -/

/-- 9.8 step 10: a frame whose check byte is wrong, at an IDLE port, is answered BAD_CHECK with clear flags. -/
theorem test_request_transaction_bad_check :
    (responseOf ((after (.requestTransaction 4 .served [0x14, 0x0C, 0x00, 0x00] 0) base).port 4)).take 4 =
      [0x21, 0x00, 0x14, 0x05] := by decide +kernel

/-- 9.8 step 11: a frame of two bytes that finds an unread response is answered BAD_FRAME with PRIOR_DISCARDED. -/
theorem test_request_transaction_bad_frame :
    (responseOf ((after (.requestTransaction 4 .served [0x14, 0x0C] 0)
      (base.setPort 4 { standing := .ready [0x21], overlap := false, priorDiscarded := false })).port 4)).take 4 =
      [0x20, 0x02, 0x14, 0x05] := by decide +kernel

/-- 9.8 step 9: a fetch at an IDLE port reads filler under the header, then NOTHING, then filler. -/
theorem test_fetch_of_nothing : (after (.fetch 4 .served 3 0) base).clientData = [0xFF, 0x00, 0xFF] := by decide +kernel

/-- 9.8 steps 7 and 8: a fetch cut short keeps the response, and one read to its end empties the port. -/
theorem test_fetch_reads_to_the_end :
    let s := base.setPort 4 { standing := .ready [4, 0, 0x14, 6, 0, 9], overlap := false, priorDiscarded := false }
    ((after (.fetch 4 .served 6 0) s).port 4).standing = .ready [4, 0, 0x14, 6, 0, 9] ∧
    (after (.fetch 4 .served 6 0) s).clientData = [0xFF, 0x02, 4, 0, 0x14, 6] ∧
    ((after (.fetch 4 .served 8 0) s).port 4).standing = .idle := by decide +kernel

/-- R151: a request and a fetch that a reset cut, the same bytes and clocks served otherwise, leave the port alone. -/
theorem test_cut_transactions :
    let bytes := [0x03, 0x01, 0x00, crc8 [0x03, 0x01, 0x00]]
    let s := base.setPort 5 { standing := .ready [4, 0, 0x14, 6, 0, 9], overlap := false, priorDiscarded := false }
    (after (.requestTransaction 4 .served bytes 0) s).port 4 ≠ s.port 4 ∧
    after (.requestTransaction 4 .cutByReset bytes 0) s = s ∧
    (after (.fetch 5 .served 8 0) s).port 5 ≠ s.port 5 ∧ after (.fetch 5 .cutByReset 8 0) s = s := by decide +kernel

/-- R166: a write that a reset cut is ignored to its stop; the same write begun after the reset stores its request. -/
theorem test_cut_management_write :
    let bytes := [0x64, 0x00, 0x00, crc8 [0x64, 0x00, 0x00]]
    (after (.managementWrite ⟨0x4C, true⟩ bytes) base).mport.standing = .idle ∧
    (after (.managementWrite ⟨0x4C, false⟩ bytes) base).mport.standing = .queued (mreq .bankStatus []) := by decide +kernel

/-- R163: with strap number 2 the part answers address 0x4E and not 0x4C; BANK STATUS then stands in MPORT. -/
theorem test_management_write_address :
    let s := { base with addressStraps := 2 }
    let bytes := [0x64, 0x00, 0x00, crc8 [0x64, 0x00, 0x00]]
    (after (.managementWrite ⟨0x4C, false⟩ bytes) s).mgmtAck = false ∧
    (after (.managementWrite ⟨0x4E, false⟩ bytes) s).mgmtAck = true ∧
    (after (.managementWrite ⟨0x4E, false⟩ bytes) s).mport.standing = .queued (mreq .bankStatus []) := by decide +kernel

/-- R165: a read while a request is waiting drives NOT_READY, then filler. -/
theorem test_management_read_not_ready :
    (after (.managementRead ⟨0x4C, false⟩ 2) (telling (mreq .bankStatus []) base)).mgmtData = [0x01, 0xFF] := by
  decide +kernel

/-! ## Sessions and heartbeats -/

/-- Client 3's table of 7.10: slots 2, 4, 5, 6, 7 and 8 on resources 4, 20 and 9. -/
def table710 : State :=
  let e := { lineDefn with quarantine := 5 }
  let t := { tokenDefn with capacity := 2, quarantine := 0 }
  let o n s := opened n s
  let s := placed 4 e (running .exclusive 1 20 [4]) (placed 20 t (running .draining 1 33 [5, 6])
    (placed 9 tokenDefn (running .free 0 0 []) (o 0 (o 1 (o 2 (o 3 base))))))
  let s := s.setEngine (s.engine.setSession 3 { s.engine.session 3 with epoch := 7 })
  let s := recorded 2 (lease 3 4 .exclusive 100 (heldFor 50 20)) s
  let s := recorded 4 (lease 1 4 .exclusive 100 (.waiting .unbounded)) s
  let s := recorded 5 (lease 3 20 .exclusive 100 (.waiting .unbounded)) s
  let s := recorded 6 (lease 2 20 .shared 100 (.waiting .unbounded)) s
  let s := recorded 7 (lease 0 20 .shared 100 (heldFor 50 33)) s
  (recorded 8 { lease 3 9 .exclusive 100 (.revoked 3 .expired) with unseen := revokedSeen } s).settle

/-- 7.10, CLOSE. -/
theorem test_close :
    let t := after (.closeSession 3) (asking 3 { kind := .closeSession, epoch := 7, args := [] } table710)
    t.engine.run 4 = running .exclusive 1 21 [] ∧ t.engine.run 20 = running .shared 2 34 [] ∧
    t.engine.session 3 = { state := .closed, epoch := 7, quota := 16, count := 0 } ∧
    Table.get t.lines 4 = .high ∧ (Table.get t.attention 1, Table.get t.attention 2, Table.get t.attention 3) =
      (true, true, false) := by decide +kernel

/-- 7.10, BAR: one record revoked and two freed, and resource 4 rests. -/
theorem test_bar :
    let t := after .bar (telling (mreq .bar [3]) table710)
    answerOf t.mport = [0x00, 1, 2] ∧ t.engine.run 4 = running (.quarantine 5) 0 20 [4] ∧
    t.engine.run 20 = running .shared 2 34 [] ∧ (t.engine.session 3).state = .barred ∧
    Table.get t.lines 4 = .low := by decide +kernel

/-- 7.10, after UNBAR and OPEN: epoch 8. -/
theorem test_open_advances_the_epoch :
    let s := base.setEngine (base.engine.setSession 3 { state := .closed, epoch := 7, quota := 16, count := 0 })
    let t := after (.openSession 3) (asking 3 (creq .openSession []) s)
    answerOf (t.port 3) = [0x00, 8] ∧ (t.engine.session 3).state = .opened := by decide +kernel

/-- R121: after epoch 255 comes 1. -/
theorem test_open_epoch_after_255 :
    let s := base.setEngine (base.engine.setSession 3 { state := .closed, epoch := 255, quota := 16, count := 0 })
    answerOf ((after (.openSession 3) (asking 3 (creq .openSession []) s)).port 3) = [0x00, 1] := by decide +kernel

/-- R125: UNBAR of a BARRED session leaves it CLOSED with its epoch. -/
theorem test_unbar :
    let s := base.setEngine (base.engine.setSession 3 { state := .barred, epoch := 7, quota := 16, count := 0 })
    (after .unbar (telling (mreq .unbar [3]) s)).engine.session 3 =
      { state := .closed, epoch := 7, quota := 16, count := 0 } := by decide +kernel

/-- R158: SERVICE, OPEN, one record, quota 16, selection OFF, nothing unseen. -/
theorem test_status :
    answerOf ((after (.status 0) (asking 0 (creq .status []) (held16 5))).port 0) = [0x00, 1, 1, 1, 16, 0, 0] := by
  decide +kernel

/-- R127: another selection is taken and the previous sample becomes invalid. -/
theorem test_set_heartbeat :
    let s := free16.setHeartbeat 0 { selection := .rising, previous := .high, renewalPending := true }
    let t := after (.setHeartbeat 0) (asking 0 (creq .setHeartbeat [3]) s)
    t.handed = some (.renewAll 0) ∧ (after (.setHeartbeat 0) (asking 0 (creq .setHeartbeat [3])
      (s.setHeartbeat 0 { selection := .rising, previous := .high, renewalPending := false }))).heartbeat 0 =
      { selection := .both, previous := .invalid, renewalPending := false } := by decide +kernel

/-- 7.11, tick 5: the renew-all sets remaining back to 5, returns the record to ACTIVE and keeps the WARNED notice. -/
theorem test_renew_all :
    let h : Held := { state := .warned, remaining := 2, fence := 1, renewals := 1 }
    let d := { tokenDefn with lead := 2, quarantine := 0 }
    let s := recorded 4 { lease 2 6 .exclusive 5 (.held h) with unseen := { Unseen.empty with warned := true } }
      (placed 6 d (running .exclusive 1 1 []) (opened 2 base))
    let t := after (.renewAll 2) (s.setHeartbeat 2 { selection := .both, previous := .high, renewalPending := true })
    (t.engine.record 4).map (·.standing) =
      some (.held { state := .active, remaining := 5, fence := 1, renewals := 2 }) ∧
    (t.heartbeat 2).renewalPending = false ∧ t.pointer = 3 := by decide +kernel

/-! ## ACQUIRE and the rest of a lease's life -/

/-- 2.7: the first grant on LINE resource 3 raises L3, with fence 1. -/
theorem test_acquire_drives_the_line :
    let s := placed 3 lineDefn (running .free 0 0 []) (opened 0 base)
    let t := after (.acquire 0) (asking 0 (creq .acquire [3, 0, 0, 200, 0, 0, 0]) s.settle)
    Table.get s.settle.lines 3 = .low ∧ Table.get t.lines 3 = .high ∧
    answerOf (t.port 0) = [0x01, 0, 0, 2, 0, 200, 0, 0, 0, 1] := by decide +kernel

/-- 5.7, step 5: the fifth waiter raises resource 18 to band 2, and the squeeze to 100 warns and cuts client 0. -/
theorem test_acquire_squeezes :
    let d := { tokenDefn with lead := 100, quarantine := 0, profile := 2 }
    let p : Profile := { t1 := 2, t2 := 4, t3 := 6, h := 1, c0 := 400, c1 := 200, c2 := 100, c3 := 50
                         l0 := 0, l1 := 3, l2 := 1, l3 := 1 }
    let s := placed 18 d { running .exclusive 1 9 [4, 5, 6, 7] with band := 1 } (opened 5 base)
    let s := s.setEngine (s.engine.setProfile 2 p)
    let s := recorded 3 { lease 0 18 .exclusive 350 (heldFor 200 9) with unseen := { Unseen.empty with squeezed := true } } s
    let t := after (.acquire 5) (asking 5 (creq .acquire [18, 0, 0, 100, 0xFF, 0xFF, 0]) s)
    (t.engine.run 18).band = 2 ∧
    (t.engine.record 3).map (fun x => (x.standing, x.unseen)) =
      some (.held { state := .warned, remaining := 100, fence := 9, renewals := 0 },
        { Unseen.empty with squeezed := true, warned := true }) ∧
    answerOf (t.port 5) = [0x02, 0, 0, 5, 0xFF, 0xFF] := by decide +kernel

/-- 4.8: RENEW without a term at remaining 1. -/
theorem test_renew :
    let s := recorded 0 (lease 2 5 .exclusive 100 (heldFor 1 30)) (placed 5 lineDefn (running .exclusive 1 30 [])
      (opened 2 base))
    answerOf ((after (.renew 2) (asking 2 (creq .renew [0, 0]) s)).port 2) = [0x00, 2, 0, 100, 1] := by decide +kernel

/-- 5.7, step 7: with renewals at band 2's limit and a waiter the renewal is refused CONTENDED. -/
theorem test_renew_contended :
    let p := { Profile.factory with l0 := 1 }
    let h : Held := { state := .warned, remaining := 100, fence := 1, renewals := 1 }
    let s := recorded 1 (lease 1 16 .exclusive 10 (.waiting .unbounded)) (recorded 0 (lease 0 16 .exclusive 350 (.held h))
      (placed 16 tokenDefn (running .exclusive 1 1 [1]) (opened 1 (opened 0 base))))
    let s := s.setEngine (s.engine.setProfile 0 p)
    answerOf ((after (.renew 0) (asking 0 (creq .renew [0, 0]) s)).port 0) = [0x0B, 3, 0, 100, 1] := by decide +kernel

/-- 2.8, last step: admission comes to grant under a full counter; the resource is spent and the waiter lapses. -/
theorem test_release_exhausts :
    let d := { tokenDefn with capacity := 2, quarantine := 0 }
    let s := recorded 1 (lease 5 22 .exclusive 10 (.waiting (.ticks 50)))
      (recorded 0 (lease 4 22 .shared 10 (heldFor 5 4294967295))
        (placed 22 d (running .draining 1 4294967295 [1]) (opened 5 (opened 4 base))))
    let t := after (.release 4) (asking 4 (creq .release [0, 0]) s)
    t.engine.run 22 = { running .offline 0 4294967295 [] with spent := true } ∧ t.engine.faults.fenceSpent = some 22 ∧
    (t.engine.record 1).map (·.standing) = some (.lapsed .offline) ∧ Table.get t.attention 5 = true := by decide +kernel

/-- 3.6, step 6: the last SHARED holder leaves and the EXCLUSIVE head is granted in place with fence 3. -/
theorem test_release_grants_the_head :
    let d := { tokenDefn with capacity := 2, quarantine := 0 }
    let s := recorded 0 (lease 1 20 .shared 300 (.waiting .unbounded)) (recorded 2 (lease 3 20 .exclusive 120
      (.waiting .unbounded)) (recorded 1 (lease 2 20 .shared 300 (heldFor 300 2))
        (placed 20 d (running .draining 1 2 [2, 0]) (opened 2 base))))
    let t := after (.release 2) (asking 2 (creq .release [4, 0]) s)
    t.engine.run 20 = running .exclusive 1 3 [0] ∧ (t.engine.slot 1).generation = 1 ∧
    (t.engine.record 2).map (·.standing) = some (heldFor 120 3) := by decide +kernel

/-- 3.7, step 1: the EXCLUSIVE head withdraws; the resource becomes SHARED and client 5 joins client 0. -/
theorem test_cancel :
    let d := { tokenDefn with capacity := 2, quarantine := 0 }
    let s := recorded 3 (lease 3 20 .shared 10 (.waiting .unbounded)) (recorded 2 (lease 5 20 .shared 10
      (.waiting .unbounded)) (recorded 1 (lease 4 20 .exclusive 10 (.waiting .unbounded))
        (recorded 0 (lease 0 20 .shared 10 (heldFor 5 7)) (placed 20 d (running .draining 1 7 [1, 2, 3])
          (opened 4 base)))))
    let t := after (.cancel 4) (asking 4 (creq .cancel [4, 0]) s)
    t.engine.run 20 = running .shared 2 8 [3] ∧ t.engine.record 1 = none ∧
    (t.engine.record 2).map Record.isHeld = some true := by decide +kernel

/-- 2.7 with a quarantine: an EXCLUSIVE lease revoked by FORCE REVOKE rests its resource, its fence in the answer. -/
theorem test_force_revoke :
    let t := after .forceRevoke (telling (mreq .forceRevoke [0, 0]) (busy16 5 .unbounded))
    answerOf t.mport = [0x00, 4, 0, 0, 0, 1] ∧ t.engine.run 16 = running (.quarantine 2) 0 1 [1] := by decide +kernel

/-! ## Notices and queries -/

/-- 8.5's slots 5 and 9. -/
def table85 : State :=
  let s := placed 14 { tokenDefn with lead := 4 } (running .exclusive 1 61 []) (opened 3 base)
  let s := recorded 5 { lease 3 14 .exclusive 10 (heldFor 6 61) with unseen := { Unseen.empty with granted := true } } s
  let s := recorded 9 { lease 3 17 .exclusive 10 (.lapsed .patience) with unseen := lapsedSeen } s
  s.setEngine (s.engine.setSlot 5 { s.engine.slot 5 with generation := 2 })

/-- 8.5, step 1: 5/2, ACTIVE, resource 14, GRANTED, cause absent, count 2. -/
theorem test_scan :
    answerOf ((after (.scan 3) (asking 3 (creq .scan []) table85)).port 3) = [0x00, 0x14, 0x02, 2, 14, 1, 0, 2] := by
  decide +kernel

/-- 8.5, step 10: nothing unseen. -/
theorem test_scan_none :
    answerOf ((after (.scan 0) (asking 0 (creq .scan []) free16)).port 0) = [0x04, 0] := by decide +kernel

/-- 8.5, step 9: ACK 9/0 naming LAPSED frees the tombstone. -/
theorem test_ack_frees :
    let t := after (.ack 3) (asking 3 (creq .ack [0x24, 0x00, 0x10]) table85)
    answerOf (t.port 3) = [0x00, 5, 5, 0, 1] ∧ t.engine.slot 9 = { generation := 1, record := none } ∧
    (t.engine.session 3).count = 1 := by decide +kernel

/-- 8.5, step 3: ACK 5/2 naming GRANTED empties the set and keeps the record. -/
theorem test_ack_keeps :
    answerOf ((after (.ack 3) (asking 3 (creq .ack [0x14, 0x02, 0x01]) table85)).port 3) = [0x00, 2, 0, 0, 0] := by
  decide +kernel

/-- 12.4: a WAITING record, line-renewable, EXCLUSIVE, UNBOUNDED, first in its queue. -/
theorem test_query_lease :
    answerOf ((after (.queryLease (.client 1)) (asking 1 (creq .queryLease [4, 0]) (busy16 5 .unbounded))).port 1) =
      [0x00, 1, 1, 16, 2, 0, 10, 0, 0, 0, 0, 0xFF, 0xFF, 1] := by decide +kernel

/-- 12.4 and 12.5: resource 16, defined TOKEN of capacity 6, in QUARANTINE with 2 to go, and no line (level code 3). -/
theorem test_query_resource :
    answerOf (after (.queryResource .management) (telling (mreq .queryResource [16]) (quarantine16 2))).mport =
      [0x00, 1, 6, 0, 2, 8, 0, 5, 0, 0, 0, 2, 0, 0, 0, 1, 6] := by decide +kernel

/-- 6.7: CHECK FENCE 11, 14 after the expiry is answered STALE_FENCE with counter 14. -/
theorem test_check_fence :
    let s := placed 11 lineDefn (running (.quarantine 3) 0 14 []) (opened 4 base)
    answerOf ((after (.checkFence (.client 4)) (asking 4 (creq .checkFence [11, 0, 0, 0, 14]) s)).port 4) =
      [0x06, 0, 0, 0, 14] ∧
    answerOf ((after (.checkFence (.client 0)) (asking 0 (creq .checkFence [16, 0, 0, 0, 1]) (held16 5))).port 0) =
      [0x05, 0, 0, 0, 1] := by decide +kernel

/-! ## Configuration and resources -/

/-- The part in MAINTENANCE. -/
def resting (s : State) : State := { s with part := .maintenance, running := false }

/-- 2.7: the redefinition of OFFLINE resource 3 with safe level HIGH moves L3. -/
theorem test_define_resource :
    let s := resting (placed 3 lineDefn (running .offline 0 2 []) base)
    let t := after .defineResource (telling (mreq .defineResource [3, 0x0F, 1, 0, 0, 8, 0]) s)
    answerOf t.mport = [0x00, 0x0F, 1, 0, 0, 8, 0] ∧ Table.get s.settle.lines 3 = .low ∧ Table.get t.lines 3 = .high := by
  decide +kernel

/-- R25, R193: the factory definition in six bytes. -/
theorem test_read_definition :
    answerOf (after .readDefinition (telling (mreq .readDefinition [31]) base)).mport = [0x00, 0, 6, 0, 0, 8, 0] := by
  decide +kernel

/-- 5.8, first write: 3/3/5 breaks T1 < T2. -/
theorem test_set_profile_bad :
    let staging := Memory.ofBytes 274 [3, 3, 5, 0, 0x03, 0xE8, 0x02, 0x58, 0x01, 0x2C, 0x00, 0x78, 0, 4, 2, 1]
    let s := resting { base with images := { base.images with staging := staging } }
    answerOf (after .setProfile (telling (mreq .setProfile [1]) s)).mport = [0x25] := by decide +kernel

/-- 5.8, second write: resource 21 at depth 4 rises to band 2 and its holder's 900 is cut to 300. -/
theorem test_set_profile_squeezes :
    let staging := Memory.ofBytes 274 [1, 3, 5, 0, 0x03, 0xE8, 0x02, 0x58, 0x01, 0x2C, 0x00, 0x78, 0, 4, 2, 1]
    let s := recorded 0 (lease 2 21 .exclusive 900 (heldFor 900 1))
      (placed 21 { tokenDefn with profile := 1 } (running .exclusive 1 1 [1, 2, 3, 4]) (resting base))
    let t := after .setProfile (telling (mreq .setProfile [1]) { s with images := { s.images with staging := staging } })
    answerOf t.mport = [0x00] ∧ (t.engine.run 21).band = 2 ∧
    (t.engine.record 0).map (fun x => (x.standing, x.unseen)) =
      some (heldFor 300 1, { Unseen.empty with squeezed := true }) := by decide +kernel

/-- R86: the factory profile in sixteen bytes. -/
theorem test_read_profile :
    answerOf (after .readProfile (telling (mreq .readProfile [3]) base)).mport =
      [0x00, 4, 8, 16, 1, 0xFF, 0xFF, 0xFF, 0xFF, 0xFF, 0xFF, 0xFF, 0xFF, 0, 0, 0, 0] := by decide +kernel

/-- 3.9: client 2's quota set to 3. -/
theorem test_set_quota :
    ((after .setQuota (telling (mreq .setQuota [2, 3]) (resting base))).engine.session 2).quota = 3 := by decide +kernel

/-- 11.8: SET DIVIDER 2000. -/
theorem test_set_divider :
    (after .setDivider (telling (mreq .setDivider [0x07, 0xD0]) (resting base))).divider = 2000 := by decide +kernel

/-- 6.7, variant: LIFT grants the head and is answered with state EXCLUSIVE. -/
theorem test_lift :
    let s := recorded 7 (lease 3 11 .exclusive 80 (.waiting (.ticks 1)))
      (placed 11 lineDefn (running (.quarantine 2) 0 14 [7]) (opened 3 base))
    let t := after .lift (telling (mreq .lift [11]) s)
    answerOf t.mport = [0x00, 2] ∧ t.engine.run 11 = running .exclusive 1 15 [] ∧ Table.get t.lines 11 = .high := by
  decide +kernel

/-- 6.8's table of resource 26. -/
def table68 : State :=
  let d := { tokenDefn with capacity := 3, quarantine := 10 }
  recorded 11 (lease 1 26 .shared 10 (.waiting .unbounded)) (recorded 10 (lease 4 26 .exclusive 10 (.waiting .unbounded))
    (recorded 8 (lease 0 26 .shared 10 (heldFor 5 50)) (recorded 3 (lease 2 26 .shared 10 (heldFor 5 51))
      (placed 26 d (running .draining 2 51 [10, 11]) base))))

/-- 6.8: without FORCE it is refused IN_USE; with it every record ends with cause OFFLINE. -/
theorem test_take_offline :
    answerOf (after .takeOffline (telling (mreq .takeOffline [26, 0]) table68)).mport = [0x0A, 2, 2] ∧
    let t := after .takeOffline (telling (mreq .takeOffline [26, 1]) table68)
    t.engine.run 26 = running .offline 0 51 [] ∧
    (t.engine.record 3).map (·.standing) = some (.revoked 51 .offline) ∧
    (t.engine.record 10).map (·.standing) = some (.lapsed .offline) ∧
    t.attention.toList = [true, true, true, false, true, false] := by decide +kernel

/-- 2.8 and 6.8: BRING ONLINE of a spent resource is refused FENCE_SPENT; else the counter carries on. -/
theorem test_bring_online :
    let s := placed 22 tokenDefn { running .offline 0 4294967295 [] with spent := true } base
    answerOf (after .bringOnline (telling (mreq .bringOnline [22]) s)).mport = [0x09] ∧
    (after .bringOnline (telling (mreq .bringOnline [26]) (placed 26 tokenDefn (running .offline 0 51 []) base))).engine.run 26 =
      running .free 0 51 [] := by decide +kernel

/-! ## Part states and resets -/

/-- 2.7: ENTER MAINTENANCE keeps the lease and its line; the ticks are frozen. -/
theorem test_enter_maintenance :
    let s := recorded 0 (lease 1 3 .exclusive 200 (heldFor 200 2)) (placed 3 lineDefn (running .exclusive 1 2 []) base)
    let t := after .enterMaintenance (telling (mreq .enterMaintenance []) { s with elapsed := 7 })
    t.part = .maintenance ∧ t.running = false ∧ t.elapsed = 0 ∧ Table.get t.lines 3 = .high := by decide +kernel

theorem test_leave_maintenance :
    let t := after .leaveMaintenance (telling (mreq .leaveMaintenance []) (resting base))
    t.part = .service ∧ t.running = true ∧ t.elapsed = 0 := by decide +kernel

/-- R170: one record, two sessions; the resource FREE with its counter. -/
theorem test_enter_safe :
    let t := after .enterSafe (telling (mreq .enterSafe []) (held16 5))
    answerOf t.mport = [0x00, 1, 2] ∧ t.part = .safe ∧ t.engine.run 16 = running .free 0 1 [] ∧
    t.engine.slot 0 = { generation := 1, record := none } := by decide +kernel

/-- R171, R166: the answer survives, the part is STARTING, the counter is kept. -/
theorem test_service_reset :
    let t := after .serviceReset (telling (mreq .serviceReset []) { held16 5 with pointer := 3 })
    answerOf t.mport = [0x00] ∧ t.part = .starting ∧ t.engine.run 16 = running .free 0 1 [] ∧ t.pointer = 0 := by
  decide +kernel

theorem test_restart_complete :
    let t := after .restartComplete (after .serviceReset (telling (mreq .serviceReset []) (held16 5)))
    t.part = .service ∧ t.running = true := by decide +kernel

/-- R173 and R192: FENCE_SPENT with number 22 is bit 4 and the next byte; naming it clears it. -/
theorem test_part_status :
    let s := base.setFaults { Faults.clear with fenceSpent := some 22 }
    let t := after .partStatus (telling (mreq .partStatus [0x10]) s)
    answerOf t.mport = [0x00, 1, 0x10, 22, 0x03, 0xE8, 0, 0] ∧ t.engine.faults = Faults.clear := by decide +kernel

/-- R178. -/
theorem test_query_session :
    answerOf (after .querySession (telling (mreq .querySession [0]) (held16 5))).mport = [0x00, 1, 1, 16, 1, 0, 0, 0] := by
  decide +kernel

/-- R187's table: the skip strap, then bank B before bank A, then no programmed bank, then SPOILT. -/
theorem test_load_sources :
    chooseSource true .written .written = .factorySkipped ∧ chooseSource false .written .written = .bankB ∧
    chooseSource false .written .spoilt = .bankA ∧ chooseSource false .blank .blank = .factoryUnprogrammed ∧
    chooseSource false .blank .spoilt = .factorySpoilt := by decide

theorem test_power_on_reset :
    let t := after (.powerOnReset 2 true) (held16 5)
    t.load = some .factorySkipped ∧ t.addressStraps = 2 ∧ t.engine.run 16 = running .offline 0 0 [] := by decide +kernel

/-- R23, R31, R133: the reset pin frees the record with its generation advanced and keeps the counter. -/
theorem test_reset_pin_assert :
    let t := after .resetPinAssert (held16 5)
    t.engine.run 16 = running .offline 0 1 [] ∧ t.engine.slot 0 = { generation := 1, record := none } ∧
    (t.engine.session 0).state = .closed ∧ (t.engine.session 0).epoch = 1 ∧ t.part = .starting := by decide +kernel

theorem test_reset_pin_release :
    let t := after (.resetPinRelease 1 false) (after .resetPinAssert (held16 5))
    t.load = some .factoryUnprogrammed ∧ t.resetPin = false ∧ t.addressStraps = 1 := by decide +kernel

/-- R189: with no programmed bank the factory configuration is in force and the part enters SERVICE. -/
theorem test_load_end :
    let t := after .loadEnd State.reset
    t.part = .service ∧ t.running = true ∧ t.divider = 1000 ∧ (t.engine.run 31).state = .offline := by decide +kernel

/-- 11.8, the variant of its end: a SPOILT bank alone leads to SAFE with IMAGE_BAD. -/
theorem test_load_end_safe :
    let t := after .loadEnd { State.reset with load := some .factorySpoilt }
    t.part = .safe ∧ t.engine.faults.imageBad = true ∧ t.running = false := by decide +kernel

/-! ## The image store -/

/-- 11.8, step 1: the format tag, and divider 2000 at its place in the image. -/
theorem test_capture :
    let m := (after .capture (telling (mreq .capture []) { base with divider := 2000 })).images.staging
    m.readAll 0 2 = [0x4D, 0x57] ∧ m.readAll 328 2 = [0x07, 0xD0] ∧ m.read 327 = 16 := by decide +kernel

/-- 11.8, step 2: value 8 at the offset of client 5's quota. -/
theorem test_write_staging :
    (after .writeStaging (telling (mreq .writeStaging [0x01, 0x47, 8]) base)).images.staging = [(327, 8)] := by
  decide +kernel

theorem test_read_staging :
    answerOf (after .readStaging (telling (mreq .readStaging [0x01, 0x47, 2])
      { base with images := { base.images with staging := [(327, 8)] } })).mport = [0x00, 8, 0] := by decide +kernel

/-- The format tag alone in the staging buffer. -/
def tagged : Memory := [(0, 0x4D), (1, 0x57)]

/-- 11.8, steps 3 to 5: BURN B starts, BURN A of a programmed bank is BANK_USED, WRITE STAGING is BUSY. -/
theorem test_burn :
    let x := { base.images with staging := tagged, bankA := { Bank.new with state := .written } }
    let t := after .burn (telling (mreq .burn [1]) { base with images := x })
    answerOf t.mport = [0x03] ∧ t.images.burning = some .b ∧
    answerOf (after .burn (telling (mreq .burn [0]) t)).mport = [0x26] ∧
    answerOf (after .writeStaging (telling (mreq .writeStaging [0, 0, 1]) t)).mport = [0x27] := by decide +kernel

/-- 11.8, after step 8: A WRITTEN, B SPOILT, no burn, no tag, source bank A. -/
theorem test_bank_status :
    let x := { base.images with bankA := { Bank.new with state := .written }, bankB := { Bank.new with state := .spoilt }
                                source := .bankA }
    answerOf (after .bankStatus (telling (mreq .bankStatus []) { base with images := x })).mport = [0x00, 1, 2, 0, 0, 0] := by
  decide +kernel

set_option maxRecDepth 100000 in
/-- R184: a burn that reads back as it was written is WRITTEN, and one bad byte makes the bank SPOILT. -/
theorem test_burn_end :
    let t := after .burn (telling (mreq .burn [1]) { base with images := { base.images with staging := tagged } })
    (after (.burnEnd []) t).images.bankB.state = .written ∧
    (after (.burnEnd [(5, 1)]) t).images.bankB.state = .spoilt ∧
    (after (.burnEnd [(5, 1)]) t).engine.faults.burnSpoilt = true := by decide +kernel

/-- 11.8, step 6: the reset pin cuts the burn; the bank is SPOILT, and no fault is left. -/
theorem test_burn_cut :
    let t := after .burn (telling (mreq .burn [1]) { base with images := { base.images with staging := tagged } })
    let u := after .resetPinAssert t
    u.images.burning = none ∧ u.images.bankB.state = .spoilt ∧ u.images.staging = [] ∧ u.engine.faults = Faults.clear := by
  decide +kernel

/-! ## Ticks -/

/-- 7.11, tick 2: HB2 rises under BOTH after a LOW sample, and the flag is set; the tick is counted. -/
theorem test_tick :
    let s := (opened 2 base).setHeartbeat 2 { selection := .both, previous := .low, renewalPending := false }
    let t := after (.tick ⟨#[false, false, true, false, false, false], rfl⟩) s
    t.heartbeat 2 = { selection := .both, previous := .high, renewalPending := true } ∧ t.untaken = 1 := by decide +kernel

/-- R67: a tick at three untaken ones is dropped. -/
theorem test_tick_slip :
    let t := after (.tick base.hbPins) { base with untaken := 3 }
    t.untaken = 3 ∧ t.engine.faults.tickSlip = true := by decide +kernel

/-- The lease table of 4.7. -/
def table47 : State :=
  let d2 := { lineDefn with quarantine := 5 }
  let d9 := { tokenDefn with lead := 5, quarantine := 4 }
  let d24 := { tokenDefn with capacity := 1, quarantine := 0 }
  let s := placed 2 d2 (running (.quarantine 1) 0 7 [1]) (placed 9 d9 (running .exclusive 1 12 [])
    (placed 24 d24 (running .draining 1 40 [5, 6, 7]) base))
  let s := recorded 0 (lease 2 9 .exclusive 100 (.held { state := .warned, remaining := 1, fence := 12, renewals := 0 })) s
  let s := recorded 1 (lease 0 2 .exclusive 300 (.waiting (.ticks 20))) s
  let s := recorded 3 (lease 1 24 .shared 150 (heldFor 1 40)) s
  let s := recorded 5 (lease 3 24 .exclusive 60 (.waiting (.ticks 1))) s
  let s := recorded 6 (lease 4 24 .shared 200 (.waiting .unbounded)) s
  { recorded 7 (lease 5 24 .shared 200 (.waiting (.ticks 10))) s with untaken := 1 }

/-- 4.7: the resources, the line and the attention lines after the tick. -/
theorem test_tick_taken :
    let t := after .tickTaken table47
    t.engine.run 2 = running .exclusive 1 8 [] ∧ t.engine.run 9 = running (.quarantine 4) 0 12 [] ∧
    t.engine.run 24 = running .shared 1 41 [7] ∧ Table.get t.lines 2 = .high ∧
    t.attention.toList = [true, true, true, true, true, false] := by decide +kernel

/-- 4.7: the records after the tick. -/
theorem test_tick_taken_records :
    let t := after .tickTaken table47
    [0, 1, 3, 5, 6, 7].map (fun k => (t.engine.record k).map (·.standing)) =
      [some (.revoked 12 .expired), some (heldFor 300 8), some (.revoked 40 .expired), some (.lapsed .patience),
        some (heldFor 200 41), some (.waiting (.ticks 9))] := by decide +kernel

/-- 4.7, slot 5: the waiting tick brings the lapse about. -/
theorem test_lapse : ((after (.lapse 5) table47).engine.record 5).map (·.standing) = some (.lapsed .patience) ∧
    (after (.lapse 7) table47).untaken = 1 := by decide +kernel

/-- 4.7, slot 0: the expiry, and the quarantine of 4 it starts. -/
theorem test_expiry : ((after (.expiry 0) table47).engine.record 0).map (·.standing) = some (.revoked 12 .expired) ∧
    ((after (.expiry 0) table47).engine.run 9).state = .quarantine 4 := by decide +kernel

/-- 4.7, resource 2: the quarantine of 1 ends; that of resource 9 does not begin and end in one tick. -/
theorem test_quarantine_end : ((after (.quarantineEnd 2) table47).engine.run 2).state = .exclusive ∧
    (after (.quarantineEnd 9) table47).untaken = 1 := by decide +kernel

/-! ## The arbiter -/

/-- 9.9: two ticks, a management request, and positions 1, 3 and 5, the pointer at 3. -/
def table99 : State :=
  let s := (opened 1 (opened 3 (opened 5 base))).setHeartbeat 3 { selection := .both, previous := .low, renewalPending := true }
  let s := asking 5 (creq .status []) (asking 3 (creq .scan []) (asking 1 (creq .status []) s))
  { telling (mreq .queryResource [3]) s with untaken := 2, pointer := 3 }

/-- 9.9, handings 1, 3, 4 and 5: ticks first, then management, then position 3's renew-all, then port 5. -/
theorem test_arbiter :
    table99.handed = some .tickTaken ∧ { table99 with untaken := 0 }.handed = some (.queryResource .management) ∧
    { table99 with untaken := 0, mport := .cleared }.handed = some (.renewAll 3) ∧
    { table99 with untaken := 0, mport := .cleared, pointer := 4 }.handed = some (.status 5) := by decide +kernel

/-! ## Witnesses: for each statement with hypotheses, states and operands that meet them, clause by clause -/

/-- StepRunsTheFrontCommandOrIdles: a command at the front; an item handed; a frozen part; a period inside the divider
and the period that reaches it. -/
theorem witness_step :
    { base with pending := [.loadEnd] }.pending = [.loadEnd] ∧ (table99.pending = [] ∧ table99.handed = some .tickTaken) ∧
    (State.reset.pending = [] ∧ State.reset.handed = none ∧ State.reset.running = false) ∧
    (base.pending = [] ∧ base.handed = none ∧ base.running = true) ∧
    { base with elapsed := 998 }.elapsed + 1 < base.divider ∧ base.divider ≤ { base with elapsed := 999 }.elapsed + 1 := by
  decide +kernel

/-- TakingsNotHandedChangeNothing: State.reset hands nothing, burns nothing and asserts no pin; in SERVICE no load is in
progress; slot 0's lease has 2 ticks and slot 1's wait 2, and resource 16 does not rest. -/
theorem witness_not_handed :
    State.reset.handed = none ∧ State.reset.images.burning = none ∧ State.reset.resetPin = false ∧
    State.reset.restarting = false ∧ base.load = none ∧ base.part ≠ .starting ∧
    (∀ rec, rec ∈ (busy16 2 (.ticks 2)).engine.record 1 →
      rec.standing ≠ .waiting (.ticks 1) ∧ rec.standing ≠ .waiting (.ticks 0)) ∧
    ((busy16 2 (.ticks 2)).engine.record 0).map (·.standing) = some (heldFor 2 1) ∧
    ((busy16 2 (.ticks 2)).engine.run 16).state = .exclusive := by decide +kernel

/-- ArbiterHandsInOrderAndMovesThePointer: each kind of item; at the client turn the position furthest from the pointer
3, position 2, is the first with an item. -/
theorem witness_arbiter :
    (table99.heartbeat 3).renewalPending = true ∧
    ((table99.heartbeat 1).renewalPending = false ∧ (table99.port 1).standing = .queued (creq .status [])) ∧
    ((table99.heartbeat 0).renewalPending = false ∧ (table99.port 0).standing = .idle) ∧
    State.reset.part = .starting ∧ (table99.part = .service ∧ 0 < table99.untaken) ∧
    table99.mport.standing = .queued (mreq .queryResource [3]) ∧
    (let s := { asking 2 (creq .status []) base with pointer := 3 }
     s.part ≠ .starting ∧ s.untaken = 0 ∧ s.mport.standing = .idle ∧
     (∀ j, j < (5 : Fin 6) → s.clientItem (s.pointer + j) = none) ∧ s.clientItem (s.pointer + 5) = some (.status 2)) ∧
    (∀ n, base.clientItem n = none) := by decide +kernel

/-- A next state of every command, for the statements about one. -/
theorem witness_next (c : Instr) (hc : c = .tickTaken ∨ c = .serviceReset ∨ c = .resetPinAssert ∨ c = .acquire 0) :
    ∃ t, exec c (held16 5) = .next t := by
  rcases hc with rfl | rfl | rfl | rfl <;> exact ⟨_, rfl⟩

/-- FrameChecksAcceptExactlyTheFramesOfR149: a client and a management frame with the longest arguments each takes, and
a frame of each port for each check that fails. -/
theorem witness_frames :
    (checkClientFrame (frame 0x10 1 [3, 0, 0, 10, 0, 0, 0, 7, 7]) =
      .request (creq .acquire [3, 0, 0, 10, 0, 0, 0, 7, 7])) ∧
    (checkMgmtFrame (frame 0x61 0 [0, 0, 1, 2, 3, 4, 5, 6, 7, 8, 9, 10]) =
      .request (mreq .writeStaging [0, 0, 1, 2, 3, 4, 5, 6, 7, 8, 9, 10])) ∧
    checkClientFrame [0x03, 1, 13] = .faulty .badLength ∧ checkClientFrame [0x03, 1, 12] = .faulty .badFrame ∧
    checkClientFrame [0x03, 1, 0, 0] = .faulty .badCheck ∧ checkClientFrame (frame 0x64 0 []) = .faulty .badKind ∧
    checkClientFrame (frame 0x03 1 [0]) = .faulty .badLength ∧
    checkMgmtFrame [0x64, 0, 13] = .faulty .badLength ∧ checkMgmtFrame [0x64, 0, 12] = .faulty .badFrame ∧
    checkMgmtFrame [0x64, 0, 0, 0] = .faulty .badCheck ∧ checkMgmtFrame (frame 0x03 0 []) = .faulty .badKind ∧
    checkMgmtFrame (frame 0x64 0 [0]) = .faulty .badLength := by decide +kernel

/-- RequestTransactionActsByThePortState, FetchDrivesThePortAndEmptiesItWhenRead and
ManagementBusWritesDeliverAndReadsFetch: the pin released and asserted, the shortest fetch, the part's own address at
each end of the straps and one beside it. -/
theorem witness_buses :
    base.resetPin = false ∧ (0x03 : Byte) ≠ Config.fetchHeader ∧ { base with resetPin := true }.resetPin = true ∧
    1 ≤ 1 ∧ (0x4C : BitVec 7).toNat = 0x4C + base.addressStraps.val ∧
    (0x4F : BitVec 7).toNat = 0x4C + { base with addressStraps := 3 }.addressStraps.val ∧
    (0x4D : BitVec 7).toNat ≠ 0x4C + base.addressStraps.val := by decide +kernel

/-- PartStateGatingOfClientRequests: MAINTENANCE refuses OPEN and passes ACK, SAFE refuses ACK and passes STATUS. -/
theorem witness_gating :
    (let s := asking 0 (creq .openSession []) (resting base)
     s.handed = some (.openSession 0) ∧ (s.port 0).standing = .queued (creq .openSession []) ∧ s.part = .maintenance) ∧
    (let s := asking 0 (creq .ack [0, 0, 0]) (resting base)
     s.handed = some (.ack 0) ∧ (s.port 0).standing = .queued (creq .ack [0, 0, 0]) ∧
       ClientKind.ack.gate s.part = none) ∧
    (let s := asking 0 (creq .ack [0, 0, 0]) { base with part := .safe }
     s.handed = some (.ack 0) ∧ (s.port 0).standing = .queued (creq .ack [0, 0, 0]) ∧ s.part = .safe) ∧
    ClientKind.status.gate .safe = none := by decide +kernel

/-- SessionAndEpochChecks: OPEN and STATUS unchecked, CLOSED, BARRED, a stale epoch and the right one. -/
theorem witness_session_checks :
    (let s := asking 2 (creq .scan []) base
     s.handed = some (.scan 2) ∧ (s.port 2).standing = .queued (creq .scan []) ∧
     ClientKind.scan.gate s.part = none ∧ (s.engine.session 2).state = .closed) ∧
    (let s := asking 2 (creq .scan []) (base.setEngine (base.engine.setSession 2
       { state := .barred, epoch := 1, quota := 16, count := 0 }))
     s.handed = some (.scan 2) ∧ (s.engine.session 2).state = .barred) ∧
    (let s := asking 0 (creq .scan []) free16
     s.handed = some (.scan 0) ∧ (s.engine.session 0).state = .opened ∧
     (creq .scan []).epoch.toNat = (s.engine.session 0).epoch) ∧
    (let q : Request ClientKind := { kind := .scan, epoch := 2, args := [] }
     let s := asking 0 q free16
     s.handed = some (.scan 0) ∧ (s.engine.session 0).state = .opened ∧
     q.epoch.toNat ≠ (s.engine.session 0).epoch) ∧
    (asking 2 (creq .status []) base).handed = some (.status 2) := by decide +kernel

/-- AvailabilityOfManagementRequests: one request that each part state refuses, and one that it takes. -/
theorem witness_availability :
    (∀ k, k = MgmtKind.setQuota ∨ k = MgmtKind.bar →
      (telling (mreq k []) base).handed = some k.command ∧ (telling (mreq k []) base).mport.standing = .queued (mreq k [])) ∧
    (telling (mreq .enterMaintenance []) (resting base)).handed = some .enterMaintenance ∧
    (telling (mreq .lift []) { base with part := .safe }).handed = some .lift ∧
    (telling (mreq .burn []) { base with part := .safe }).admitsMgmt (mreq .burn []) := by
  refine ⟨fun k hk => ?_, ?_⟩
  · rcases hk with rfl | rfl <;> decide +kernel
  · decide +kernel

/-- HandleChecksAnswerStaleAndNotHolder: a handle of a FREE slot, one with the wrong generation, and another client's
current one, for a RELEASE, a RENEW without a term, an ACK and the management controller's FORCE REVOKE. -/
theorem witness_handles :
    (asking 0 (creq .release [4, 0]) (held16 5)).admits 0 (creq .release [4, 0]) ∧
    (held16 5).engine.stale (argWord [4, 0] 0) ∧ (held16 5).engine.stale (argWord [0, 1] 0) ∧
    ((asking 1 (creq .renew [0, 0]) (held16 5)).admits 1 (creq .renew [0, 0]) ∧
      (held16 5).engine.reaches (argWord [0, 0] 0) 0 (lease 0 16 .exclusive 10 (heldFor 5 1))) ∧
    ((asking 1 (creq .ack [0, 0, 31]) (held16 5)).admits 1 (creq .ack [0, 0, 31]) ∧ argByte [0, 0, 31] 2 < 32) ∧
    (telling (mreq .forceRevoke [4, 0]) (held16 5)).admitsMgmt (mreq .forceRevoke [4, 0]) := by decide +kernel

/-! ### A lawful state with a lease and a wait -/

/-- Its lease engine keeps every law. -/
theorem busy16_engine_lawful : (busy16 1 (.ticks 1)).engine.lawful := by
  refine ⟨?_, ?_, ?_, ?_, ?_, ?_, ?_, ?_, ?_, ?_, ?_, ?_, ?_, ?_, ?_⟩ <;> decide +kernel

/-- So does the part around it, with a tick, a client's request and a management request waiting. -/
def crowded : State :=
  { telling (mreq .bar [0]) (asking 0 (creq .closeSession []) (busy16 1 (.ticks 1))) with untaken := 1 }

theorem crowded_lawful : crowded.lawful := by
  refine ⟨busy16_engine_lawful, ?_, ?_, ?_, ?_, ?_, ?_, ?_, ?_, ?_⟩ <;> decide +kernel

/-- The same without the tick and the management request. -/
def calm (q : Request ClientKind) : State := asking 0 q (busy16 1 (.ticks 1))

theorem calm_lawful (q : Request ClientKind) (hq : q = creq .openSession [] ∨ q = creq .closeSession []) :
    (calm q).lawful := by
  rcases hq with rfl | rfl <;>
    exact ⟨busy16_engine_lawful, by decide +kernel, by decide +kernel, by decide +kernel, by decide +kernel,
      by decide +kernel, by decide +kernel, by decide +kernel, by decide +kernel, by decide +kernel⟩

/-- OpenStartsASessionWithTheNextEpoch: CLOSED, BARRED, and OPEN in a lawful state. -/
theorem witness_open :
    ((asking 2 (creq .openSession []) base).admits 2 (creq .openSession []) ∧ (base.engine.session 2).state = .closed) ∧
    (let s := base.setEngine (base.engine.setSession 2 { state := .barred, epoch := 255, quota := 16, count := 0 })
     (asking 2 (creq .openSession []) s).admits 2 (creq .openSession []) ∧ (s.engine.session 2).state = .barred) ∧
    ((calm (creq .openSession [])).admits 0 (creq .openSession []) ∧
      ((calm (creq .openSession [])).engine.session 0).state = .opened ∧ (calm (creq .openSession [])).lawful) :=
  ⟨by decide +kernel, by decide +kernel, by decide +kernel, by decide +kernel, calm_lawful _ (.inl rfl)⟩

/-- CloseFreesEveryRecordOfTheClient. -/
theorem witness_close : (calm (creq .closeSession [])).admits 0 (creq .closeSession []) ∧
    (calm (creq .closeSession [])).lawful := ⟨by decide +kernel, calm_lawful _ (.inr rfl)⟩

/-- BarEndsTheClientsRecordsAndUnbarLiftsIt: client numbers 6 and 5, a session not BARRED in a lawful state whose holder
goes into quarantine, and a BARRED one. -/
theorem witness_bar :
    (let s := { crowded with untaken := 0 }
     s.admitsMgmt (mreq .bar [0]) ∧ (s.engine.session 0).state ≠ .barred ∧ (s.engine.defn 16).quarantine ≠ 0) ∧
    { crowded with untaken := 0 }.lawful ∧
    ((telling (mreq .bar [6]) base).admitsMgmt (mreq .bar [6]) ∧ 6 ≤ argByte [6] 0) ∧
    ((telling (mreq .unbar [5]) base).admitsMgmt (mreq .unbar [5]) ∧ (5 : Client).val = argByte [5] 0 ∧
      (base.engine.session 5).state ≠ .barred) ∧
    (let s := base.setEngine (base.engine.setSession 5 { state := .barred, epoch := 7, quota := 16, count := 0 })
     (telling (mreq .unbar [5]) s).admitsMgmt (mreq .unbar [5]) ∧
     (telling (mreq .bar [5]) s).admitsMgmt (mreq .bar [5]) ∧ (s.engine.session 5).state = .barred) := by
  refine ⟨by decide +kernel, ?_, by decide +kernel, by decide +kernel, by decide +kernel⟩
  refine ⟨busy16_engine_lawful, ?_, ?_, ?_, ?_, ?_, ?_, ?_, ?_, ?_⟩ <;> decide +kernel

/-- StatusReportsTheClientsStanding and SetHeartbeatTakesTheSelection: codes 3 and 4. -/
theorem witness_status :
    (asking 0 (creq .status []) (held16 5)).admits 0 (creq .status []) ∧
    ((asking 0 (creq .setHeartbeat [3]) free16).admits 0 (creq .setHeartbeat [3]) ∧
      argByte [3] 0 = Selection.both.code.toNat) ∧
    ((asking 0 (creq .setHeartbeat [4]) free16).admits 0 (creq .setHeartbeat [4]) ∧ 4 ≤ argByte [4] 0) := by
  decide +kernel

/-- RenewAllRenewsTheLineRenewableLeases: with the session OPEN and a held line-renewable record, with another client's,
and with the session CLOSED. -/
theorem witness_renew_all :
    (let s := (busy16 5 .unbounded).setHeartbeat 0 { selection := .both, previous := .low, renewalPending := true }
     s.handed = some (.renewAll 0) ∧ (s.engine.session 0).state = .opened ∧
     s.engine.record 0 = some (lease 0 16 .exclusive 10 (heldFor 5 1)) ∧
     s.engine.record 1 = some (lease 1 16 .exclusive 10 (.waiting .unbounded))) ∧
    (let s := base.setHeartbeat 2 { selection := .both, previous := .low, renewalPending := true }
     s.handed = some (.renewAll 2) ∧ (s.engine.session 2).state ≠ .opened) := by decide +kernel

/-! ### ACQUIRE -/

/-- An ACQUIRE of resource `r`, EXCLUSIVE, by client 1. -/
def wants (r term patience : Byte) : Request ClientKind := creq .acquire [r, 0, 0, term, 0, patience, 0]

def wanted (r term patience : Nat) : AcquireArgs :=
  { resource := r, mode := .exclusive, term := term, patience := patience, lineRenewable := false, tag := none }

/-- AcquireIsRefusedInTheOrderOfR51: term 0, mode code 2, resources 32 and 31, and a state for each refusal. -/
theorem witness_acquire_refused :
    ((asking 1 (wants 31 0 0) free16).admits 1 (wants 31 0 0) ∧ argWord (wants 31 0 0).args 2 = 0) ∧
    ((asking 1 (creq .acquire [16, 2, 0, 1, 0, 0, 0]) free16).admits 1 (creq .acquire [16, 2, 0, 1, 0, 0, 0])) ∧
    (acquireArgs (wants 32 1 0).args = some (wanted 32 1 0) ∧ acquireArgs (wants 31 1 0).args = some (wanted 31 1 0)) ∧
    -- OFFLINE
    ((free16.engine.defn 31).defined = false) ∧
    -- MODE
    (let s := placed 3 lineDefn (running .free 0 0 []) (opened 1 base)
     (asking 1 (creq .acquire [3, 1, 0, 1, 0, 0, 0]) s).admits 1 (creq .acquire [3, 1, 0, 1, 0, 0, 0]) ∧
     (s.engine.defn 3).kind = .line ∧ (s.engine.run 3).state ≠ .offline) ∧
    -- HELD
    ((busy16 5 .unbounded).engine.liveAt 1 16 1 ∧ ∀ j, j < 1 → ¬ (busy16 5 .unbounded).engine.liveAt 1 16 j) ∧
    -- QUOTA
    (let s := (held16 5).setEngine ((held16 5).engine.setSession 1 { state := .opened, epoch := 1, quota := 3, count := 3 })
     (∀ k, ¬ s.engine.liveAt 1 16 k) ∧ (s.engine.session 1).quota ≤ (s.engine.session 1).count) ∧
    -- BUSY_RESOURCE
    ((held16 5).engine.acquirable 1 16 .exclusive ∧ ¬ (held16 5).engine.atOnce 16 .exclusive) ∧
    -- QUEUE_FULL
    (let s := placed 16 { tokenDefn with queueLimit := 1 } (running .exclusive 1 1 [1]) (opened 1 base)
     s.engine.acquirable 1 16 .exclusive ∧ ¬ s.engine.atOnce 16 .exclusive ∧
     (s.engine.defn 16).queueLimit ≤ (s.engine.run 16).queue.length) := by decide +kernel

/-- A table with no FREE slot, for TABLE_FULL: client 5 has them all. -/
def full : State :=
  free16.setEngine { free16.engine with
    slots := Table.fill 64 { generation := 0, record := some (lease 5 17 .shared 10 (.lapsed .patience)) } }

theorem witness_table_full :
    (asking 1 (wants 16 1 0) full).admits 1 (wants 16 1 0) ∧ full.engine.acquirable 1 16 .exclusive ∧
    full.engine.atOnce 16 .exclusive ∧ ∀ k, full.engine.record k ≠ none := by decide +kernel

/-- AcquireGrantsAtOnce: the least term and the last fence that leaves the counter room. -/
theorem witness_acquire_grants :
    let s := placed 16 tokenDefn (running .free 0 4294967294 []) (opened 1 base)
    (asking 1 (wants 16 1 0) s).admits 1 (wants 16 1 0) ∧ acquireArgs (wants 16 1 0).args = some (wanted 16 1 0) ∧
    s.engine.acquirable 1 16 .exclusive ∧ s.engine.atOnce 16 .exclusive ∧ s.engine.lowestFree 0 ∧
    (s.engine.run 16).fence < Config.fenceMax := by decide +kernel

/-- AcquireJoinsTheQueue: the least patience and the last place in a queue; the lowest FREE slot is not slot 0. -/
theorem witness_acquire_joins :
    let s := recorded 0 (lease 0 16 .exclusive 10 (heldFor 5 1))
      (placed 16 { tokenDefn with queueLimit := 1 } (running .exclusive 1 1 []) (opened 1 base))
    (asking 1 (wants 16 1 1) s).admits 1 (wants 16 1 1) ∧ acquireArgs (wants 16 1 1).args = some (wanted 16 1 1) ∧
    s.engine.acquirable 1 16 .exclusive ∧ ¬ s.engine.atOnce 16 .exclusive ∧
    (s.engine.run 16).queue.length < (s.engine.defn 16).queueLimit ∧ s.engine.lowestFree 1 := by decide +kernel

/-- AcquireOnAFullFenceCounterExhaustsTheResource. -/
theorem witness_acquire_exhausts :
    let s := placed 16 tokenDefn (running .free 0 4294967295 []) (opened 1 base)
    (asking 1 (wants 16 1 0) s).admits 1 (wants 16 1 0) ∧ acquireArgs (wants 16 1 0).args = some (wanted 16 1 0) ∧
    s.engine.acquirable 1 16 .exclusive ∧ s.engine.atOnce 16 .exclusive ∧ s.engine.record 0 = none ∧
    Config.fenceMax ≤ (s.engine.run 16).fence := by decide +kernel

/-! ### Requests with a handle -/

/-- RenewFollowsTheRenewalRule, ReleaseEndsAHeldLease, CancelWithdrawsAWait: a held record, a wait and each tombstone,
of the sender's own. -/
theorem witness_own_handles (k : ClientKind) (hk : k = .renew ∨ k = .release ∨ k = .cancel ∨ k = .queryLease) :
    ((asking 0 (creq k [0, 0]) (busy16 5 .unbounded)).admits 0 (creq k [0, 0]) ∧
      (busy16 5 .unbounded).engine.reaches (argWord [0, 0] 0) 0 (lease 0 16 .exclusive 10 (heldFor 5 1))) ∧
    ((asking 1 (creq k [4, 0]) (busy16 5 .unbounded)).admits 1 (creq k [4, 0]) ∧
      (busy16 5 .unbounded).engine.reaches (argWord [4, 0] 0) 1 (lease 1 16 .exclusive 10 (.waiting .unbounded))) ∧
    (∀ st, st = Standing.revoked 1 .expired ∨ st = Standing.lapsed .patience →
      (asking 0 (creq k [0, 0]) (tombstone st revokedSeen)).admits 0 (creq k [0, 0]) ∧
      (tombstone st revokedSeen).engine.reaches (argWord [0, 0] 0) 0 { lease 0 16 .exclusive 10 st with unseen := revokedSeen }) := by
  rcases hk with rfl | rfl | rfl | rfl <;>
    exact ⟨by decide +kernel, by decide +kernel, fun st hst => by rcases hst with rfl | rfl <;> decide +kernel⟩

/-- RenewFollowsTheRenewalRule: term 0 at length 4, and the three conditions of R78 at their boundary and just short of
it. -/
theorem witness_renew :
    (asking 0 (creq .renew [0, 0, 0, 0]) (held16 5)).admits 0 (creq .renew [0, 0, 0, 0]) ∧
    (let s := (busy16 5 .unbounded).setEngine ((busy16 5 .unbounded).engine.setProfile 0 { Profile.factory with l0 := 1 })
     (asking 0 (creq .renew [0, 0]) s).admits 0 (creq .renew [0, 0]) ∧
     (s.engine.run 16).queue ≠ [] ∧ (s.engine.profileOf 16).limit (s.engine.run 16).band = 1 ∧
     ¬ (s.engine.profileOf 16).limit (s.engine.run 16).band ≤ 0) := by decide +kernel

/-- ForceRevokeEndsARecord and QueryLeaseReturnsTheRecord: the management controller on a held record, a wait and a
tombstone. -/
theorem witness_management_handles :
    (telling (mreq .forceRevoke [0, 0]) (busy16 5 .unbounded)).admitsMgmt (mreq .forceRevoke [0, 0]) ∧
    (telling (mreq .forceRevoke [4, 0]) (busy16 5 .unbounded)).admitsMgmt (mreq .forceRevoke [4, 0]) ∧
    (let s := tombstone (.revoked 1 .expired) revokedSeen
     (telling (mreq .forceRevoke [0, 0]) s).admitsMgmt (mreq .forceRevoke [0, 0]) ∧
     (telling (mreq .queryLease [0, 0]) s).admitsMgmt (mreq .queryLease [0, 0]) ∧
     s.engine.reaches 0 0 { lease 0 16 .exclusive 10 (.revoked 1 .expired) with unseen := revokedSeen }) := by
  decide +kernel

/-- ScanReportsTheLowestNotice: slot 5 is client 3's lowest with a notice, and client 0 has none. -/
theorem witness_scan :
    let noticed (n : Client) (rec : Record) : Bool := decide (rec.client = n) && decide (rec.unseen ≠ .empty)
    (asking 3 (creq .scan []) table85).admits 3 (creq .scan []) ∧ (table85.engine.record 5).any (noticed 3) = true ∧
    (∀ j, j < 5 → (table85.engine.record j).any (noticed 3) = false) ∧
    (asking 0 (creq .scan []) free16).admits 0 (creq .scan []) ∧
    ∀ k, (free16.engine.record k).any (noticed 0) = false := by decide +kernel

/-- AckRemovesNoticesAndFreesTombstones: sets 32 and 31, each tombstone with its terminal member named and not named. -/
theorem witness_ack :
    ((asking 0 (creq .ack [0, 0, 32]) (held16 5)).admits 0 (creq .ack [0, 0, 32]) ∧ 32 ≤ argByte [0, 0, 32] 2) ∧
    (let s := tombstone (.revoked 1 .expired) revokedSeen
     (asking 0 (creq .ack [0, 0, 31]) s).admits 0 (creq .ack [0, 0, 31]) ∧ argByte [0, 0, 31] 2 < 32 ∧
     (argByte [0, 0, 31] 2).testBit 3 = true ∧ (argByte [0, 0, 16] 2).testBit 3 = false ∧
     s.engine.reaches 0 0 { lease 0 16 .exclusive 10 (.revoked 1 .expired) with unseen := revokedSeen }) ∧
    (let s := tombstone (.lapsed .patience) lapsedSeen
     (asking 0 (creq .ack [0, 0, 16]) s).admits 0 (creq .ack [0, 0, 16]) ∧ (argByte [0, 0, 16] 2).testBit 4 = true ∧
     s.engine.reaches 0 0 { lease 0 16 .exclusive 10 (.lapsed .patience) with unseen := lapsedSeen }) := by
  decide +kernel

/-- QueryResourceAndCheckFenceAnswerForTheResource: resources 32, 16 (no line) and 15 (the last line), a fence carried
and one not carried, from both ports. -/
theorem witness_queries :
    ((asking 0 (creq .queryResource [32]) (held16 5)).admits 0 (creq .queryResource [32]) ∧ 32 ≤ argByte [32] 0) ∧
    ((telling (mreq .queryResource [15]) base).admitsMgmt (mreq .queryResource [15]) ∧
      (15 : ResourceId).val = argByte [15] 0) ∧
    ((asking 0 (creq .checkFence [16, 0, 0, 0, 1]) (held16 5)).admits 0 (creq .checkFence [16, 0, 0, 0, 1]) ∧
      (1 = argLong [16, 0, 0, 0, 1] 1) ∧
      (held16 5).engine.record 0 = some (lease 0 16 .exclusive 10 (heldFor 5 1))) ∧
    ((telling (mreq .checkFence [16, 0, 0, 0, 2]) (held16 5)).admitsMgmt (mreq .checkFence [16, 0, 0, 0, 2]) ∧
      2 = argLong [16, 0, 0, 0, 2] 1) := by decide +kernel

/-! ### Management -/

/-- DefineResourceStoresAValidDefinition: a LINE on 15 and on 16, a number of 32, capacities 6 and 7, an OFFLINE resource
and one that is not. -/
theorem witness_define :
    (∀ args : List Byte, args ∈ ([[15, 2, 0, 0, 0, 63, 3], [16, 2, 0, 0, 0, 63, 3], [32, 1, 6, 0, 0, 1, 0],
        [16, 1, 7, 0, 0, 1, 0], [31, 1, 6, 0, 0, 1, 0]] : List (List Byte)) →
      (telling (mreq .defineResource args) (resting free16)).admitsMgmt (mreq .defineResource args)) ∧
    (free16.engine.run 15).state = .offline ∧ (free16.engine.run 16).state ≠ .offline ∧
    (telling (mreq .readDefinition [31]) base).admitsMgmt (mreq .readDefinition [31]) ∧
    (telling (mreq .readDefinition [32]) base).admitsMgmt (mreq .readDefinition [32]) := by decide +kernel

/-- SetProfileReplacesTheProfileAndRerunsTheBands: profiles 4 and 3; a cleared buffer is out of range; the factory values
in the buffer are in range and ordered, and equal thresholds are in range and not ordered. -/
theorem witness_set_profile :
    (telling (mreq .setProfile [4]) (resting base)).admitsMgmt (mreq .setProfile [4]) ∧
    (telling (mreq .setProfile [3]) (resting base)).admitsMgmt (mreq .setProfile [3]) ∧
    (profileOf (Memory.profileByte [] 3)).inRange = false ∧
    (let m := Memory.ofBytes (258 + 48) Profile.factory.bytes
     profileOf (m.profileByte 3) = Profile.factory ∧ Profile.factory.inRange = true ∧ Profile.factory.ordered = true) ∧
    ({ Profile.factory with t2 := 4 }.inRange = true ∧ { Profile.factory with t2 := 4 }.ordered = false) ∧
    (telling (mreq .readProfile [3]) base).admitsMgmt (mreq .readProfile [3]) := by decide +kernel

/-- BandRuleEndsInTheLawAndSqueezesOnARise: a depth that rises, one that falls and one that does neither, under the
factory profile (section 5.2: band 1 is entered at depth 5 and left at 3, so at depth 4 bands 0 and 1 both stay; band 3 is
entered at depth 17); a rise and a fall of three steps. -/
theorem witness_band_rule :
    let e (band depth : Nat) : Engine :=
      (placed 16 tokenDefn { running .exclusive 1 1 ((List.finRange 64).take depth) with band := band } base).engine
    ((e 0 5).profileOf 16).valid = true ∧ (((e 0 5).bandRule 16).run 16).band = 1 ∧
    (((e 1 3).bandRule 16).run 16).band = 0 ∧ (((e 3 16).bandRule 16).run 16).band = 3 ∧ ((e 3 16).run 16).band ≤ 3 ∧
    (((e 0 4).bandRule 16).run 16).band = 0 ∧ (((e 1 4).bandRule 16).run 16).band = 1 ∧
    (((e 0 17).bandRule 16).run 16).band = 3 ∧ (((e 3 3).bandRule 16).run 16).band = 0 := by
  decide +kernel

/-- Resource 16 in state `st` with `holders` holders, capacity 2, and a queue headed by slot 1, which waits in mode `m`. -/
def waitingFor (st : ResourceState) (holders : Nat) (m : Mode) : Engine :=
  (recorded 1 (lease 1 16 m 10 (.waiting .unbounded))
    (placed 16 { tokenDefn with capacity := 2 } (running st holders 1 [1]) base)).engine

/-- AdmissionSettlesItsResourceAlone: the head by which each row goes, at 0, 1 and 2 holders of a capacity of 2; and
no head. -/
theorem witness_admission_rows :
    (∀ st holders, (waitingFor st holders .exclusive).headed 16 1 (lease 1 16 .exclusive 10 (.waiting .unbounded)) ∧
      (waitingFor st holders .shared).headed 16 1 (lease 1 16 .shared 10 (.waiting .unbounded)) ∧
      ((waitingFor st holders .shared).run 16).state = st ∧ ((waitingFor st holders .exclusive).run 16).state = st ∧
      ((waitingFor st holders .shared).run 16).holders = holders ∧
      ((waitingFor st holders .exclusive).run 16).holders = holders ∧
      ((waitingFor st holders .shared).defn 16).capacity = 2) ∧
    ((free16.engine.run 16).state = .free ∧ (free16.engine.run 16).queue.head? = none) := by
  refine ⟨fun st holders => ⟨⟨rfl, rfl, rfl⟩, ⟨rfl, rfl, rfl⟩, rfl, rfl, rfl, rfl, rfl⟩, by decide +kernel⟩

/-- What R57's rows for a head do there: an EXCLUSIVE one is granted on a DRAINING resource without holders and makes a
SHARED one DRAINING; a SHARED one is granted below capacity and not at it. -/
theorem test_admission_rows :
    ((waitingFor .draining 0 .exclusive).admission 16).run 16 = running .exclusive 1 2 [] ∧
    ((waitingFor .shared 1 .exclusive).admission 16).run 16 = running .draining 1 1 [1] ∧
    ((waitingFor .draining 1 .shared).admission 16).run 16 = running .shared 2 2 [] ∧
    ((waitingFor .shared 2 .shared).admission 16).run 16 = running .shared 2 1 [1] := by decide +kernel

/-- AdmissionSettlesItsResourceAlone, its last clause: a SHARED resource with a holder, and a queue of its own waiters. -/
theorem witness_admission :
    let e := ((quarantine16 1).engine.setState 16 .shared).setRun 16 (running .shared 1 1 [])
    (((e.run 16).state = .shared) ∧ 0 < (e.run 16).holders) ∧
    ∀ k, k ∈ ((busy16 5 .unbounded).engine.run 16).queue →
      ((busy16 5 .unbounded).engine.record k).all fun rec => decide (rec.resource = 16) := by decide +kernel

/-- SetQuotaAndSetDivider: clients 6 and 5, quotas 0, 1, 64 and 65, dividers 15 and 16. -/
theorem witness_quota :
    (∀ args : List Byte, args ∈ ([[6, 1], [5, 0], [5, 1], [5, 64], [5, 65]] : List (List Byte)) →
      (telling (mreq .setQuota args) (resting base)).admitsMgmt (mreq .setQuota args)) ∧
    (telling (mreq .setDivider [0, 15]) (resting base)).admitsMgmt (mreq .setDivider [0, 15]) ∧
    (telling (mreq .setDivider [0, 16]) (resting base)).admitsMgmt (mreq .setDivider [0, 16]) := by decide +kernel

/-- LiftEndsAQuarantine: resources 32 and 16, in quarantine and not. -/
theorem witness_lift :
    (telling (mreq .lift [32]) base).admitsMgmt (mreq .lift [32]) ∧
    (telling (mreq .lift [16]) (quarantine16 1)).admitsMgmt (mreq .lift [16]) ∧
    ((quarantine16 1).engine.run 16).state = .quarantine 1 ∧ (free16.engine.run 16).state = .free := by decide +kernel

/-- TakeOfflineAndBringOnline: FORCE 2, resource 32, each state a clause names. -/
theorem witness_offline :
    (∀ args : List Byte, args ∈ ([[16, 2], [32, 1], [16, 0], [16, 1], [31, 1]] : List (List Byte)) →
      (telling (mreq .takeOffline args) (held16 5)).admitsMgmt (mreq .takeOffline args)) ∧
    (held16 5).engine.heldOn 16 + (held16 5).engine.waitingOn 16 = 1 ∧
    ((held16 5).engine.run 31).state = .offline ∧
    (∀ args : List Byte, args ∈ ([[32], [31], [16]] : List (List Byte)) →
      (telling (mreq .bringOnline args) (held16 5)).admitsMgmt (mreq .bringOnline args)) ∧
    ((held16 5).engine.run 16).state ≠ .offline ∧ ((held16 5).engine.defn 31).defined = false ∧
    (let s := placed 16 tokenDefn { running .offline 0 4294967295 [] with spent := true } base
     (telling (mreq .bringOnline [16]) s).admitsMgmt (mreq .bringOnline [16]) ∧ (s.engine.run 16).spent = true) ∧
    (let s := placed 16 tokenDefn (running .offline 0 1 []) base
     (telling (mreq .bringOnline [16]) s).admitsMgmt (mreq .bringOnline [16]) ∧ (s.engine.run 16).spent = false) := by
  decide +kernel

/-- MaintenanceFreezesLeaseTime, EnterSafeGivesUpEveryClaim, ServiceResetRestartsWithoutALoad and
PartStatusAndQuerySessionReport: the requests in a part state that takes them; clear sets 31 and 32, clients 5 and 6. -/
theorem witness_part_states :
    (telling (mreq .enterMaintenance []) base).admitsMgmt (mreq .enterMaintenance []) ∧
    (telling (mreq .leaveMaintenance []) (resting base)).admitsMgmt (mreq .leaveMaintenance []) ∧
    (telling (mreq .enterSafe []) (held16 5)).admitsMgmt (mreq .enterSafe []) ∧
    (telling (mreq .serviceReset []) (held16 5)).admitsMgmt (mreq .serviceReset []) ∧
    (let s := after .serviceReset (telling (mreq .serviceReset []) (held16 5))
     s.part = .starting ∧ s.restarting = true) ∧
    (∀ args : List Byte, args ∈ ([[31], [32]] : List (List Byte)) →
      (telling (mreq .partStatus args) base).admitsMgmt (mreq .partStatus args)) ∧
    (∀ args : List Byte, args ∈ ([[5], [6]] : List (List Byte)) →
      (telling (mreq .querySession args) base).admitsMgmt (mreq .querySession args)) := by decide +kernel

/-- PowerOnAndResetPinBeginALoad and LoadEndAppliesTheConfiguration: a bank whose burn is in flight, an asserted pin and a
load from each kind of source. -/
theorem witness_resets :
    (let x := { base.images with staging := tagged }
     let t := after .burn (telling (mreq .burn [0]) { base with images := x })
     t.images.burning = some .a ∧ (t.images.bank .a).started = true ∧ (t.images.bank .a).finished = false ∧
       (t.images.bank .a).state = .spoilt) ∧
    base.burnLaw ∧ (after .resetPinAssert base).resetPin = true ∧ State.reset.load = some .factoryUnprogrammed ∧
    { State.reset with load := some .bankA }.load = some .bankA := by decide +kernel

/-- LoadEndAppliesTheConfiguration: six bytes that are a valid definition at the ends of their ranges, and one that is
not. -/
theorem witness_definition :
    (definitionOf 15 fun i => [15, 0, 255, 255, 63, 3].getD i 0).isSome = true ∧
    (definitionOf 16 fun i => [2, 1, 0, 0, 1, 0].getD i 0) = none := by decide +kernel

/-! ### The image store and the ticks -/

/-- StagingIsCapturedWrittenAndRead: offsets 511 with one byte and with two, 512; counts 0, 24 and 25; a burn in flight
and none. -/
theorem witness_staging :
    base.images.staging.wf = true ∧ base.images.burning = none ∧
    (let s := { base with images := { base.images with burning := some .a } }
     s.images.burning ≠ none ∧ (telling (mreq .capture []) s).admitsMgmt (mreq .capture [])) ∧
    (∀ args : List Byte, args ∈ ([[1, 0xFF, 7], [1, 0xFF, 7, 7], [2, 0, 7]] : List (List Byte)) →
      (telling (mreq .writeStaging args) base).admitsMgmt (mreq .writeStaging args)) ∧
    (∀ args : List Byte, args ∈ ([[0, 0, 0], [0x01, 0xE8, 24], [0x01, 0xE9, 24], [0, 0, 25]] : List (List Byte)) →
      (telling (mreq .readStaging args) base).admitsMgmt (mreq .readStaging args)) := by decide +kernel

/-- BurnStartsOnABlankBank: bank codes 1 and 2; the tag absent and present; a bank that is not BLANK; a burn in flight. -/
theorem witness_burn :
    (∀ args : List Byte, args ∈ ([[1], [2]] : List (List Byte)) →
      (telling (mreq .burn args) base).admitsMgmt (mreq .burn args)) ∧
    base.burnLaw ∧ base.images.staging.wf = true ∧ Memory.wf tagged = true ∧
    (Memory.read tagged 0 = 0x4D ∧ Memory.read tagged 1 = 0x57) ∧ Memory.read base.images.staging 0 ≠ 0x4D ∧
    (base.images.bank .b).state = .blank ∧
    (let s := { base with images := { base.images with bankB := { Bank.new with state := .spoilt } } }
     s.burnLaw ∧ (s.images.bank .b).state ≠ .blank) ∧
    (telling (mreq .bankStatus []) base).admitsMgmt (mreq .bankStatus []) := by
  refine ⟨by decide +kernel, ⟨by decide +kernel, by decide +kernel⟩, by decide +kernel, by decide +kernel,
    by decide +kernel, by decide +kernel, by decide +kernel, ⟨⟨?_, ?_⟩, ?_⟩, by decide +kernel⟩ <;> decide +kernel

/-- The staging buffer and banks while bank A burns. -/
def burningA : State :=
  let x := { base.images with staging := tagged.writeAll 510 (bytes2 0) }
  after .burn (telling (mreq .burn [0]) { base with images := x })

set_option maxRecDepth 100000 in
/-- BurnEndsWrittenOrSpoilt: a burn in flight, a read-back that agrees at the last byte position that is not part of the
check word, and one that differs there. -/
theorem witness_burn_end :
    burningA.images.burning = some .a ∧ burningA.burnLaw ∧ burningA.images.staging.wf = true ∧
    (Instr.burnEnd [(509, 0)]).wellFormed = true ∧ burningA.images.staging.read 509 = 0 ∧
    (Instr.burnEnd [(509, 1)]).wellFormed = true ∧ burningA.images.staging.read 509 ≠ 1 := by
  refine ⟨by decide +kernel, ?_, by decide +kernel, by decide +kernel, by decide +kernel, by decide +kernel,
    by decide +kernel⟩
  exact ⟨by decide +kernel, by decide +kernel⟩

/-- CapturedImageLoadsBackTheConfiguration: a valid configuration, and a part that loads each bank from its image. -/
theorem witness_captured :
    base.configLaw ∧
    (let written := { Bank.new with content := imageOf base.engine base.divider }
     let t := { State.reset with load := some .bankA, images := { State.reset.images with bankA := written } }
     let u := { State.reset with load := some .bankB, images := { State.reset.images with bankB := written } }
     (t.load = some .bankA ∧ (t.images.bank .a).content = imageOf base.engine base.divider) ∧
     (u.load = some .bankB ∧ (u.images.bank .b).content = imageOf base.engine base.divider)) :=
  ⟨by decide +kernel, ⟨rfl, rfl⟩, rfl, rfl⟩

/-- TickIsCountedOrSlipsAndSamplesHeartbeats: TGEN running and frozen. -/
theorem witness_tick : base.running = true ∧ State.reset.running = false := by decide +kernel

/-- TickTakenCountsEveryRecordOnce and EndingsHappenInTheTickThatBringsThemAbout: a lawful part with a tick to take, room
in every counter, a lease with 1 tick and a wait with 1. -/
theorem witness_tick_taken :
    crowded.handed = some .tickTaken ∧ crowded.lawful ∧ (∀ r, crowded.engine.fenceRoom r) ∧
    crowded.engine.record 0 = some (lease 0 16 .exclusive 10 (heldFor 1 1)) ∧
    crowded.engine.record 1 = some (lease 1 16 .exclusive 10 (.waiting (.ticks 1))) :=
  ⟨by decide +kernel, crowded_lawful, by decide +kernel, by decide +kernel, by decide +kernel⟩

/-- EndingsHappenInTheTickThatBringsThemAbout: a lawful part with a tick to take and a quarantine of 1. -/
theorem witness_quarantine_end :
    let s := { quarantine16 1 with untaken := 1 }
    s.handed = some .tickTaken ∧ s.lawful ∧ (s.engine.run 16).state = .quarantine 1 := by
  refine ⟨by decide +kernel, ?_, by decide +kernel⟩
  refine ⟨⟨?_, ?_, ?_, ?_, ?_, ?_, ?_, ?_, ?_, ?_, ?_, ?_, ?_, ?_, ?_⟩, ?_, ?_, ?_, ?_, ?_, ?_, ?_, ?_, ?_⟩ <;>
    decide +kernel

/-- TakingsNotHandedChangeNothing: a lawful part with a tick to take and a quarantine of 2. -/
theorem witness_quarantine_goes_on :
    let s := { quarantine16 2 with untaken := 1 }
    s.handed = some .tickTaken ∧ s.lawful ∧ (s.engine.run 16).state = .quarantine 2 := by
  refine ⟨by decide +kernel, ?_, by decide +kernel⟩
  refine ⟨⟨?_, ?_, ?_, ?_, ?_, ?_, ?_, ?_, ?_, ?_, ?_, ?_, ?_, ?_, ?_⟩, ?_, ?_, ?_, ?_, ?_, ?_, ?_, ?_, ?_⟩ <;>
    decide +kernel

/-- A tick to take; resource 16 is DRAINING at the last fence with client 0's SHARED lease of 1 tick in slot 0, and client
1's EXCLUSIVE wait, which lapses at that tick, before client 2's SHARED wait. -/
def passedOver : State :=
  let d := { tokenDefn with capacity := 2 }
  let s := placed 16 d (running .draining 1 4294967295 [1, 2]) (opened 2 (opened 1 (opened 0 base)))
  let s := recorded 0 (lease 0 16 .shared 10 (heldFor 1 1)) s
  { recorded 2 (lease 2 16 .shared 10 (.waiting .unbounded))
      (recorded 1 (lease 1 16 .exclusive 10 (.waiting (.ticks 1))) s) with untaken := 1 }

/-- TakingsNotHandedChangeNothing: stage 3 passes over a marked record that the exhaustion of stage 2 revoked (R72). -/
theorem witness_passed_over :
    passedOver.handed = some .tickTaken ∧ passedOver.lawful ∧
    ((after .tickTaken passedOver).engine.record 0).map (·.standing) = some (.revoked 1 .offline) := by
  refine ⟨by decide +kernel, ?_, by decide +kernel⟩
  refine ⟨⟨?_, ?_, ?_, ?_, ?_, ?_, ?_, ?_, ?_, ?_, ?_, ?_, ?_, ?_, ?_⟩, ?_, ?_, ?_, ?_, ?_, ?_, ?_, ?_, ?_⟩ <;>
    decide +kernel

/-- R72: the tick passes that record over, so EXPIRY of it takes no tick. -/
theorem test_expiry_passed_over : (after (.expiry 0) passedOver).untaken = 1 := by decide +kernel

/-- The statements of what every step keeps: a lawful state that takes a step which ends a lease and a wait. -/
theorem witness_every_step : crowded.lawful ∧ ∃ t, step { crowded with pending := [.tickTaken] } = .next t :=
  ⟨crowded_lawful, _, rfl⟩

/-- FenceCountersNeverFallAndGrantsExceedThem, RecordsKeepTheirHandleUntilFreed, QueuesKeepTheirOrder and
NoClientEndsAnotherClientsLease: queues of their own resource's waiters; another client's lease, with room in its
resource's counter, while client 1 acts. -/
theorem witness_happenings :
    (busy16 1 (.ticks 1)).engine.queueLaw ∧ (∃ t, exec (.acquire 1) (busy16 5 .unbounded) = .next t) ∧
    (busy16 5 .unbounded).engine.record 0 = some (lease 0 16 .exclusive 10 (heldFor 5 1)) ∧
    (busy16 5 .unbounded).engine.fenceRoom 16 :=
  ⟨by decide +kernel, ⟨_, rfl⟩, by decide +kernel, by decide +kernel⟩

end Sys2Proof.Machine.Tests
end

section
/-! PROOF. Single requests on the lease table: the handle checks, ACQUIRE, RELEASE, CANCEL and QUERY LEASE. -/

namespace Sys2Proof.Machine

/-- The states of a request that answers without a change of the lease engine. -/
theorem takeClient_of_unchanged {s : State} {n : Client} {q : Request ClientKind} {a : Answer} (h : s.admits n q)
    {rule : List Byte → State → State × Answer} (hr : rule q.args (s.serve n) = (s.serve n, a)) :
    s.takeClient q.kind n rule = s.afterClient n q s.engine a := by
  rw [takeClient_admitted h, hr, placeClient_settle]

/-- A request whose rule changes the lease engine alone. -/
theorem takeClient_of_setEngine {s : State} {n : Client} {q : Request ClientKind} {e : Engine} {a : Answer}
    (h : s.admits n q) {rule : List Byte → State → State × Answer}
    (hr : rule q.args (s.serve n) = ((s.serve n).setEngine e, a)) :
    s.takeClient q.kind n rule = s.afterClient n q e a := by
  rw [takeClient_admitted h, hr, placeClient_setEngine_settle]

theorem takeMgmt_of_unchanged {s : State} {q : Request MgmtKind} {a : Answer} (h : s.admitsMgmt q)
    {rule : List Byte → State → State × Answer} (hr : rule q.args s = (s, a)) :
    s.takeMgmt q.kind rule = s.afterMgmt q s.engine a := by
  rw [takeMgmt_admitted h, hr, placeMgmt_settle]

/-! ## Handles (R3, R4, R20) -/

/-- The argument check that RENEW and ACK make before they look at the handle lets the request pass. -/
def ClientKind.passesToHandle (k : ClientKind) (args : List Byte) : Prop :=
  match k with
  | .release | .cancel | .queryLease => True
  | .renew => ¬ (args.length = 4 ∧ argWord args 2 = 0)
  | .ack => argByte args 2 < 32
  | _ => False

theorem renewTerm_ne_zero {args : List Byte} (h : ¬ (args.length = 4 ∧ argWord args 2 = 0)) :
    renewTerm args ≠ some 0 := by
  unfold renewTerm
  split
  · rename_i hl
    simpa using fun hz => h ⟨hl, hz⟩
  · simp

/-- A request that names a handle answers what the handle check answers, if that check refuses it (R20). -/
theorem exec_handle_refused {n : Client} {q : Request ClientKind} {s : State} {st : Status} (h : s.admits n q)
    (hk : q.kind.passesToHandle q.args)
    (hr : ∀ rule, (s.serve n).withHandle (some n) (argWord q.args 0) rule = (s.serve n, .bare st)) :
    exec (q.kind.command n) s = .next (s.afterClient n q s.engine (.bare st)) := by
  obtain ⟨kind, epoch, args⟩ := q
  cases kind with
  | release => exact congrArg _ (takeClient_of_unchanged h (hr _))
  | cancel => exact congrArg _ (takeClient_of_unchanged h (hr _))
  | queryLease => exact congrArg _ (takeClient_of_unchanged h (hr _))
  | renew =>
    refine congrArg _ (takeClient_of_unchanged h ?_)
    rw [renewRule, if_neg (renewTerm_ne_zero hk)]
    exact hr _
  | ack =>
    refine congrArg _ (takeClient_of_unchanged h ?_)
    simp only [ClientKind.passesToHandle] at hk
    simp only [ackRule, changeSetOf, hk, if_true]
    exact hr _
  | _ => exact hk.elim

/-- The same for the management controller, which makes no NOT_HOLDER check (R20). -/
theorem exec_mgmt_stale {q : Request MgmtKind} {s : State} (h : s.admitsMgmt q)
    (hk : q.kind = .forceRevoke ∨ q.kind = .queryLease) (hs : s.engine.stale (argWord q.args 0)) :
    exec q.kind.command s = .next (s.afterMgmt q s.engine (.bare .stale)) := by
  obtain ⟨kind, epoch, args⟩ := q
  rcases hk with rfl | rfl <;>
    exact congrArg _ (takeMgmt_of_unchanged h (withHandle_stale none hs _))

/-- Settles O12: the two refusals of the handle check, brought to each request that names a handle. -/
theorem handleChecksAnswerStaleAndNotHolder : Obligations.HandleChecksAnswerStaleAndNotHolder := by
  refine ⟨fun n q s h hk => ?_, fun q s => exec_mgmt_stale, fun w => ⟨rfl, rfl⟩, fun k g => ?_⟩
  · have hp : q.kind.passesToHandle q.args := by
      rcases hk with hk | hk | hk | ⟨hk, ha⟩ | ⟨hk, ha⟩ <;> rw [hk]
      · trivial
      · trivial
      · trivial
      · exact ha
      · exact ha
    exact ⟨fun hs => exec_handle_refused h hp (withHandle_stale (s := s.serve n) _ hs),
      fun k rec hr hn => exec_handle_refused h hp (withHandle_other (s := s.serve n) hr hn)⟩
  · rw [handleBytes, Nat.mul_comm]

/-! ## ACQUIRE (R50, R54, R55) -/

/-- An ACQUIRE comes to its resource with the arguments R49 checked. -/
theorem acquireRule_of_args {n : Client} {args : List Byte} {s : State} {a : AcquireArgs} {r : ResourceId} {k : SlotId}
    (ha : acquireArgs args = some a) (hr : a.resource = r.val) (hn : s.engine.acquireRefusal n r a = none)
    (hk : s.engine.lowestFree k) :
    acquireRule n args s =
      let e := s.engine
      let handle := handleBytes k (e.slot k).generation
      if e.grantable r a.mode then
        if e.fenceFull r then (s.setEngine (e.exhaust r), .bare .fenceSpent)
        else
          let h := e.immediateHeld r a
          (s.setEngine (e.grantAtOnce n r a k),
            { status := .granted
              content := handle ++ [(Standing.held h).code] ++ bytes2 h.remaining ++ bytes4 h.fence })
      else
        (s.setEngine (e.join n r a k),
          { status := .queued
            content := handle ++ [byte ((e.run r).queue.length + 1)] ++ (patienceOf a.patience).bytes }) := by
  simp only [acquireRule, ha, withResource_of_val hr.symm, hn, firstFree_of_lowestFree hk]

/-- Settles O20: an immediate grant is `grantAtOnce`, which R54 and R42 write out. -/
theorem acquireGrantsAtOnce : Obligations.AcquireGrantsAtOnce := by
  intro n q s a r k hkind h ha hr hacq hnow hk hf
  have hrule := acquireRule_of_args (n := n) (s := s.serve n) ha hr (acquireRefusal_none hacq (.inl hnow)) hk
  simp only [State.serve_engine, (grantable_iff _ _ _).mpr hnow, Engine.fenceFull, Nat.not_le.mpr hf, decide_false,
    Bool.false_eq_true, if_false, if_true] at hrule
  simp only [exec, execAcquire, ← hkind]
  rw [takeClient_of_setEngine h hrule]
  simp only [Engine.grantAtOnce, Engine.joinHolders, Engine.create, Engine.putRecord, AcquireArgs.record,
    Engine.immediateHeld, grantedHeld]
  cases a.mode <;> rfl

/-- The bytes of a patience as ACQUIRE carried it. -/
theorem patienceOf_bytes (p : Nat) : (patienceOf p).bytes = bytes2 p := by
  unfold patienceOf
  split
  · rename_i h
    rw [h, Patience.bytes]
  · rfl

/-- Settles O21: a wait is `join`, which R55 and R95 write out. -/
theorem acquireJoinsTheQueue : Obligations.AcquireJoinsTheQueue := by
  intro n q s a r k hkind h ha hr hacq hnow hp hq hk
  have hrule := acquireRule_of_args (n := n) (s := s.serve n) ha hr (acquireRefusal_none hacq (.inr ⟨hp, hq⟩)) hk
  have hg : s.engine.grantable r a.mode = false := by
    rw [← Bool.not_eq_true, grantable_iff]
    exact hnow
  simp only [State.serve_engine, hg, Bool.false_eq_true, if_false, patienceOf_bytes] at hrule
  simp only [exec, execAcquire, ← hkind]
  rw [takeClient_of_setEngine h hrule]
  rfl

/-! ## RELEASE and CANCEL (R61, R62, R81, R82) -/

/-- Settles O24: the own rule of RELEASE, one branch for each standing of the record. -/
theorem releaseEndsAHeldLease : Obligations.ReleaseEndsAHeldLease := by
  rintro n q s k rec hkind h hreach rfl
  have hrec : s.engine.record k = some rec := hreach.2.2
  have hown := withHandle_own (s := s.serve rec.client) hreach
  simp only [exec, execRelease, ← hkind]
  refine ⟨fun x hs => ?_, fun f c hs => ?_, fun hs => ?_⟩ <;> congr 1
  · rw [← depart_eq, ← freeSlot_eq (rec := rec) (by simpa [Engine.depart] using hrec)]
    exact takeClient_of_setEngine h (by simp only [releaseRule, hown, hs, State.serve_engine])
  · rw [← freeSlot_eq hrec]
    exact takeClient_of_setEngine h (by simp only [releaseRule, hown, hs, State.serve_engine, tombstoneAnswer])
  · rcases hs with ⟨p, hs⟩ | ⟨c, hs⟩ <;> exact takeClient_of_unchanged h (by simp only [releaseRule, hown, hs])

/-- A record that is not held stays as it is while a record leaves a queue. -/
theorem leaveQueue_record_of_not_held {e : Engine} {r : ResourceId} {k j : SlotId} {rec : Record}
    (h : e.record j = some rec) (hs : rec.isHeld = false) : (e.leaveQueue r k).record j = some rec :=
  bandRule_record_of_not_held h hs

/-- Settles O25: the own rule of CANCEL, one branch for each standing of the record. -/
theorem cancelWithdrawsAWait : Obligations.CancelWithdrawsAWait := by
  rintro n q s k rec hkind h hreach rfl
  have hrec : s.engine.record k = some rec := hreach.2.2
  have hown := withHandle_own (s := s.serve rec.client) hreach
  simp only [exec, execCancel, ← hkind]
  refine ⟨fun p hs => ?_, fun c hs => ?_, fun hs => ?_⟩ <;> congr 1
  · have hheld : rec.isHeld = false := by simp [Record.isHeld, Standing.isHeld, hs]
    rw [← leaveQueue_eq, ← freeSlot_eq (leaveQueue_record_of_not_held hrec hheld)]
    exact takeClient_of_setEngine h (by simp only [cancelRule, hown, hs, State.serve_engine])
  · rw [← freeSlot_eq hrec]
    exact takeClient_of_setEngine h (by simp only [cancelRule, hown, hs, State.serve_engine, tombstoneAnswer])
  · rcases hs with ⟨x, hs⟩ | ⟨f, c, hs⟩ <;> exact takeClient_of_unchanged h (by simp only [cancelRule, hown, hs])

/-! ## QUERY LEASE (R21, R22, 12.4) -/

theorem decide_toNat (p : Prop) [Decidable p] : (decide p).toNat = if p then 1 else 0 := by
  split <;> simp_all

theorem mul_toNat (c : Nat) (b : Bool) : c * b.toNat = if b = true then c else 0 := by
  cases b <;> simp

/-- The lease record of 12.4, byte by byte. -/
theorem leaseBytes_eq (e : Engine) (k : SlotId) (rec : Record) :
    leaseBytes e k rec =
      [rec.standing.code, byte rec.client.val, byte rec.resource.val,
        byte ((if rec.mode = .shared then 1 else 0) + (if rec.lineRenewable then 2 else 0) +
          (if rec.tag.isSome then 4 else 0))] ++
      bytes2 rec.asked ++ bytes2 (rec.tag.getD 0) ++ [rec.unseen.code, rec.standing.causeByte] ++
      match rec.standing with
      | .waiting (.ticks p) => bytes2 p ++ [byte ((e.run rec.resource).queue.idxOf k + 1)]
      | .waiting .unbounded => [0xFF, 0xFF] ++ [byte ((e.run rec.resource).queue.idxOf k + 1)]
      | .held h => bytes2 h.remaining ++ bytes4 h.fence ++ [byte h.renewals]
      | .revoked f _ => bytes4 f
      | .lapsed _ => [] := by
  simp only [leaseBytes, decide_toNat, mul_toNat, Engine.position]
  congr 1
  cases rec.standing with
  | waiting p => cases p <;> rfl
  | _ => rfl

/-- QUERY LEASE's own rule, for a client on its own record and for the management controller on any. -/
theorem queryLeaseRule_reaches {owner : Option Client} {args : List Byte} {s : State} {k : SlotId} {rec : Record}
    (ho : owner = some rec.client ∨ owner = none) (h : s.engine.reaches (argWord args 0) k rec) :
    queryLeaseRule owner args s = (s, { status := .ok, content := leaseBytes s.engine k rec }) := by
  rcases ho with rfl | rfl
  · exact withHandle_own h _
  · exact withHandle_management h _

/-- Settles O29: `leaseBytes` is the layout of 12.4, and the rule answers it to both senders. -/
theorem queryLeaseReturnsTheRecord : Obligations.QueryLeaseReturnsTheRecord := by
  refine ⟨fun x => ⟨?_, ?_⟩, ⟨rfl, rfl, rfl, rfl⟩, fun u => ?_, fun s k rec w hreach => ⟨?_, ?_⟩⟩
  · cases x with
    | held h => rcases h with ⟨_ | _, _, _, _⟩ <;> rfl
    | _ => rfl
  · cases x <;> rfl
  · simp only [Unseen.code, bits5, mul_toNat]
    congr 5
    cases u.granted <;> rfl
  · rintro ⟨kind, epoch, args⟩ rfl h rfl
    have hrule := queryLeaseRule_reaches (s := s.serve rec.client) (.inl rfl) hreach
    rw [leaseBytes_eq] at hrule
    exact congrArg _ (takeClient_of_unchanged h hrule)
  · rintro ⟨kind, epoch, args⟩ rfl h rfl
    have hrule := queryLeaseRule_reaches (.inr rfl) hreach
    rw [leaseBytes_eq] at hrule
    exact congrArg _ (takeMgmt_of_unchanged h hrule)

end Sys2Proof.Machine
end

section
/-! PROOF. The resets: the reset state's values and laws, power-on reset and the reset pin. -/

namespace Sys2Proof.Machine

/-! ## The reset state (R23, R31, R133) -/

section ResetState

theorem reset_slot (k : SlotId) : State.reset.engine.slot k = { generation := 0, record := none } :=
  Table.get_fill _ _

theorem reset_record (k : SlotId) : State.reset.engine.record k = none := by
  rw [Engine.record, reset_slot]

theorem reset_run (r : ResourceId) : State.reset.engine.run r = .powerOn := by
  simp [Engine.run, State.reset, Engine.powerOn]

theorem reset_defn (r : ResourceId) : State.reset.engine.defn r = .factory := by
  simp [Engine.defn, State.reset, Engine.powerOn]

theorem reset_session (n : Client) :
    State.reset.engine.session n = { state := .closed, epoch := 0, quota := Config.factoryQuota, count := 0 } :=
  Table.get_fill _ _

theorem reset_heartbeat (n : Client) : State.reset.heartbeat n = .cleared := Table.get_fill _ _

theorem reset_port (n : Client) : State.reset.port n = .cleared := Table.get_fill _ _

end ResetState

/-- Settles O44: the rows of the reset state's tables are equal cells. -/
theorem resetLeavesTheStatedValues : Obligations.ResetLeavesTheStatedValues :=
  ⟨reset_slot, reset_run, fun n => by simp only [reset_session, and_self], rfl, reset_heartbeat, rfl, rfl, rfl, rfl,
    reset_port, rfl, fun n => Table.get_fill _ n, fun n => Table.get_fill _ n, fun _ => rfl, rfl, rfl⟩

theorem countWhere_of_empty {e : Engine} (h : e.empty) (p : Record → Bool) : e.countWhere p = 0 := by
  simp [Engine.countWhere, h]

theorem reset_empty : State.reset.engine.empty := reset_record

theorem reset_engine_lawful : State.reset.engine.lawful := by
  refine ⟨fun n => ?_, fun n _ => ⟨?_, fun k => ?_⟩, fun n => ?_, fun k => ?_, fun j _ _ => ?_, fun k => ?_,
    fun k => ?_, fun k => ?_, fun r => ?_, fun r => ⟨?_, fun k => ?_⟩, fun r => ?_, fun k => ?_, fun r => ?_, fun r => ?_,
    fun j _ _ => ?_⟩
  case refine_10 => rw [reset_run, Engine.heldOn, countWhere_of_empty reset_empty]; rfl
  case refine_13 => simp [Engine.standsAs, reset_run, Run.powerOn]
  all_goals
    simp [reset_slot, reset_record, reset_run, reset_session, Run.powerOn, Config.generations, Config.fenceMax,
      countWhere_of_empty reset_empty]

/-- Settles O52: the tables are empty, and no configuration but the factory one is in force. -/
theorem resetIsLawful : Obligations.ResetIsLawful := by
  refine ⟨reset_engine_lawful, ⟨?_, ?_, ?_, by decide⟩, rfl, ?_, ?_, ?_, ?_, ?_, ?_, ?_⟩
  · intro r; rw [reset_defn]; rfl
  · intro p; rw [State.reset]; simp [Engine.powerOn]; rfl
  · intro n; simp [reset_session, Config.factoryQuota]
  · intro _; exact ⟨reset_record, fun n => by rw [reset_session]⟩
  · refine ⟨by decide, by decide, by decide, fun _ => ⟨rfl, rfl, fun n => by rw [reset_heartbeat]; exact ⟨rfl, rfl⟩⟩⟩
  · intro n _
    rw [reset_heartbeat]
    exact ⟨rfl, rfl⟩
  · exact ⟨fun n => by rw [reset_port]; rfl, rfl⟩
  · refine ⟨fun n => ?_, fun n => ?_⟩
    · rw [State.lineByRule, reset_defn, if_pos (.inl rfl)]
      exact Table.get_fill _ n
    · simp [reset_record, show Table.get State.reset.attention n = false from Table.get_fill _ n]
  · exact State.reset_buffers_wf
  · exact ⟨⟨by decide, by decide, by decide⟩, ⟨by decide, by decide, by decide⟩⟩

end Sys2Proof.Machine
end

section
/-! PROOF. A cut burn, power-on reset and the reset pin. -/
namespace Sys2Proof.Machine

/-! ## A burn cut by a reset (R185) -/

/-- The image store after a reset that finds it so: a burn in flight is cut, its bank left SPOILT. -/
def ImageStore.cut (x : ImageStore) (index : Nat) : ImageStore :=
  match x.burning with
  | none => x
  | some i =>
    { x.setBank i { x.bank i with content := cutContent index (x.bank i).content x.staging, state := .spoilt } with
      burning := none }

theorem cutBurn_eq (s : State) : s.cutBurn =
    { s with
      images := s.images.cut s.freeIndex
      freeIndex := if s.images.burning.isSome then s.freeIndex + 1 else s.freeIndex } := by
  unfold State.cutBurn ImageStore.cut
  cases hb : s.images.burning <;> rfl

theorem bank_setBank_self (x : ImageStore) (i : BankId) (b : Bank) : (x.setBank i b).bank i = b := by
  cases i <;> rfl

theorem bank_setBank_ne (x : ImageStore) {i j : BankId} (b : Bank) (h : i ≠ j) : (x.setBank i b).bank j = x.bank j := by
  cases i <;> cases j <;> simp_all [ImageStore.setBank, ImageStore.bank]

theorem bank_with_burning (x : ImageStore) (b : Option BankId) (i : BankId) :
    ({ x with burning := b } : ImageStore).bank i = x.bank i := by
  cases i <;> rfl

/-- A cut leaves both marks of every bank, all of a bank that was not burning, and the burning bank SPOILT. -/
theorem bank_cut (x : ImageStore) (index : Nat) (i : BankId) :
    ((x.cut index).bank i).started = (x.bank i).started ∧ ((x.cut index).bank i).finished = (x.bank i).finished ∧
    (x.burning ≠ some i → (x.cut index).bank i = x.bank i) ∧
    (x.burning = some i → ((x.cut index).bank i).state = .spoilt) := by
  unfold ImageStore.cut
  cases hb : x.burning with
  | none => exact ⟨rfl, rfl, fun _ => rfl, nofun⟩
  | some j =>
    simp only [bank_with_burning]
    by_cases hij : j = i
    · subst hij
      simp [bank_setBank_self]
    · simp [bank_setBank_ne _ _ hij, hij]

theorem cut_burning (x : ImageStore) (index : Nat) : (x.cut index).burning = none := by
  unfold ImageStore.cut
  cases hb : x.burning <;> simp [hb]

theorem source_setBank (x : ImageStore) (i : BankId) (b : Bank) : (x.setBank i b).source = x.source := by
  cases i <;> rfl

theorem cut_source (x : ImageStore) (index : Nat) : (x.cut index).source = x.source := by
  unfold ImageStore.cut
  cases hb : x.burning with
  | none => rfl
  | some i => exact source_setBank _ _ _

/-! ## Outputs of a part in STARTING with an empty lease table (R40, R140) -/

theorem hasNotice_of_empty {e : Engine} (h : e.empty) (n : Client) : e.hasNotice n = false := by
  rw [← Bool.not_eq_true, hasNotice_iff]
  simp [h]

theorem settle_starting {s : State} (hp : s.part = .starting) (hr : s.restarting = false) (he : s.engine.empty) :
    s.settle = { s with lines := Table.fill 16 .undriven, attention := Table.fill 6 false } := by
  have hl : s.linesOf = Table.fill 16 .undriven :=
    Table.ext fun n => by simp only [State.linesOf, Table.get_tab, Table.get_fill, lineLevel, hp, hr]; split <;> rfl
  have ha : s.attentionOf = Table.fill 6 false :=
    Table.ext fun n => by rw [State.attentionOf, Table.get_tab, Table.get_fill, hasNotice_of_empty he]
  rw [State.settle, hl, ha]

theorem powerOn_empty : Engine.powerOn.empty := reset_empty

/-! ## Power-on reset (R23, R31, R133, R187, R190) -/

/-- The image store after power-on: a burn cut, the staging buffer cleared, the banks' states derived. -/
def ImageStore.poweredOn (x : ImageStore) (index : Nat) : ImageStore :=
  { x.cut index with
    bankA := (x.cut index).bankA.derived
    bankB := (x.cut index).bankB.derived
    staging := []
    source := .factoryUnprogrammed }

theorem bank_poweredOn (x : ImageStore) (index : Nat) (i : BankId) :
    (x.poweredOn index).bank i = ((x.cut index).bank i).derived := by
  cases i <;> rfl

/-- A bank that was started and not finished is SPOILT, whatever its content (R179). -/
theorem derive_of_unfinished {b : Bank} (hs : b.started = true) (hf : b.finished = false) : b.derive = .spoilt := by
  simp [Bank.derive, hs, hf]

theorem execPowerOnReset_eq (straps : Fin 4) (skip : Bool) (s : State) :
    exec (.powerOnReset straps skip) s =
      .next { State.reset with
        addressStraps := straps, images := s.images.poweredOn s.freeIndex
        load := some (chooseSource skip ((s.images.poweredOn s.freeIndex).bank .a).state
          ((s.images.poweredOn s.freeIndex).bank .b).state)
        hbPins := s.hbPins, pending := s.pending
        freeIndex := if s.images.burning.isSome then s.freeIndex + 1 else s.freeIndex } := by
  simp only [exec, execPowerOnReset]
  rw [settle_starting]
  · simp only [State.hardReset, cutBurn_eq]
    rfl
  · rfl
  · rfl
  · exact powerOn_empty

theorem powerOn_keeps_banks {x : ImageStore} (index : Nat) (i : BankId)
    (hburn : x.burning = some i → (x.bank i).started = true ∧ (x.bank i).finished = false) :
    let y := (x.poweredOn index).bank i
    y.started = (x.bank i).started ∧ y.finished = (x.bank i).finished ∧ y.state = y.derive ∧
      (x.burning ≠ some i → y.content = (x.bank i).content) ∧ (x.burning = some i → y.state = .spoilt) := by
  obtain ⟨hs, hf, hkeep, -⟩ := bank_cut x index i
  simp only [bank_poweredOn, Bank.derived]
  refine ⟨hs, hf, rfl, fun h => by rw [hkeep h], fun h => ?_⟩
  obtain ⟨hs', hf'⟩ := hburn h
  exact derive_of_unfinished (hs.trans hs') (hf.trans hf')

/-! ## The reset pin (R40, R151, R166, R172) -/

theorem pinReset_eq (e : Engine) : e.pinReset =
    { e with
      slots := Table.tab fun k =>
        { generation := if e.record k = none then (e.slot k).generation else ((e.slot k).generation + 1) % 1024
          record := none }
      sessions := Table.tab fun n => { e.session n with state := .closed, count := 0 }
      resources := Table.tab fun r =>
        { defn := e.defn r
          run := { state := .offline, holders := 0, band := 0, fence := (e.run r).fence, spent := (e.run r).spent
                   queue := [] } }
      faults := .clear } := by
  simp only [Engine.pinReset, Engine.mapRuns, Engine.closeAll, Engine.freeAll, Slot.freed_eq, Engine.session,
    Table.get_tab]
  rfl

theorem pinReset_empty (e : Engine) : e.pinReset.empty := by
  intro k
  simp [pinReset_eq, Engine.record, Engine.slot]

theorem execResetPinAssert_eq (s : State) :
    exec .resetPinAssert s =
      .next { s with
        engine := s.engine.pinReset
        heartbeats := Table.fill 6 .cleared
        untaken := 0, pointer := 0, running := false, elapsed := 0
        ports := Table.fill 6 .cleared
        mport := .cleared
        lines := Table.fill 16 .undriven, attention := Table.fill 6 false
        part := .starting, restarting := false, load := none, resetPin := true
        images := { s.images.cut s.freeIndex with staging := [] }
        freeIndex := if s.images.burning.isSome then s.freeIndex + 1 else s.freeIndex } := by
  simp only [exec, execResetPinAssert]
  rw [settle_starting]
  · simp only [State.hardReset, cutBurn_eq]
    rfl
  · rfl
  · rfl
  · exact pinReset_empty _

/-- Settles O42: a cut burn is `ImageStore.cut`, and both resets leave an empty lease table in STARTING. -/
theorem powerOnAndResetPinBeginALoad : Obligations.PowerOnAndResetPinBeginALoad := by
  refine ⟨fun b => ?_, fun a b => ⟨rfl, rfl, fun hb => ?_, rfl, fun ha hb hab => ?_⟩, fun straps skip s hburn => ?_,
    fun s => ?_, fun straps skip s hpin => ?_⟩
  · simp [Bank.derive]
  · simp [chooseSource, hb]
  · simp [chooseSource, ha, hb, hab]
  · refine ⟨_, execPowerOnReset_eq straps skip s, rfl, cut_burning _ _, fun i => powerOn_keeps_banks _ _ fun h => ?_⟩
    cases i
    · exact ⟨(hburn.1.1 h).1, (hburn.1.1 h).2.1⟩
    · exact ⟨(hburn.2.1 h).1, (hburn.2.1 h).2.1⟩
  · refine ⟨{ s.images.cut s.freeIndex with staging := [] }, (execResetPinAssert_eq s).trans ?_, rfl,
      cut_burning _ _, cut_source _ _, fun i => ?_⟩
    · rw [pinReset_eq]
      rfl
    · have hb := bank_cut s.images s.freeIndex i
      cases i <;> exact hb
  · simp only [exec, execResetPinRelease, hpin, if_true]
    rfl

end Sys2Proof.Machine
end

section
/-! PROOF. What one happening can do to the lease engine: every command but a power-on reset leaves one of the engines
that `Engine.Yields` lists, each with the guards under which the model computes it. -/

namespace Sys2Proof.Machine

/-- Session `n` opened, its epoch advanced (R121). -/
def Engine.openSession (e : Engine) (n : Client) : Engine :=
  e.setSession n { e.session n with state := .opened, epoch := nextEpoch (e.session n).epoch }

/-- What a happening other than a power-on reset makes of the lease engine `e`. The index is the client whose request
it takes, if it takes one. `loading` says that a load is in progress. -/
inductive Engine.Yields (e : Engine) (loading : Prop) : Option Client → Engine → Prop
  | unchanged (who : Option Client) : Yields e loading who e
  | faults (f : Faults) : Yields e loading none { e with faults := f }
  | opens (n : Client) (h : (e.session n).state = .closed) : Yields e loading (some n) (e.openSession n)
  | reopens (n : Client) : Yields e loading (some n) ((e.endSession n).openSession n)
  | closes (n : Client) : Yields e loading (some n) ((e.endSession n).setSessionState n .closed)
  | granted {n : Client} {r : ResourceId} {args : List Byte} {a : AcquireArgs} {k : SlotId}
      (ho : (e.session n).state = .opened) (ha : acquireArgs args = some a) (hr : e.acquireRefusal n r a = none)
      (hk : e.firstFree = some k) (hg : e.grantable r a.mode = true) (hf : e.fenceFull r = false) :
      Yields e loading (some n) (e.grantAtOnce n r a k)
  | exhausted (n : Client) {r : ResourceId} (hf : e.fenceFull r = true) : Yields e loading (some n) (e.exhaust r)
  | joined {n : Client} {r : ResourceId} {args : List Byte} {a : AcquireArgs} {k : SlotId}
      (ho : (e.session n).state = .opened) (ha : acquireArgs args = some a) (hr : e.acquireRefusal n r a = none)
      (hk : e.firstFree = some k) (hg : e.grantable r a.mode = false) :
      Yields e loading (some n) (e.join n r a k)
  | renewed {k : SlotId} {rec : Record} {h : Held} {term : Option Nat} (hk : e.record k = some rec)
      (hs : rec.standing = .held h) (ht : ∀ v, term = some v → 1 ≤ v ∧ v ≤ 65535) :
      Yields e loading (some rec.client) (e.putRecord k (e.renewed rec h term).1)
  | released {k : SlotId} {rec : Record} {h : Held} (hk : e.record k = some rec) (hs : rec.standing = .held h) :
      Yields e loading (some rec.client) (((e.depart rec.resource rec.mode).freeSlot k).admission rec.resource)
  | cancelled {k : SlotId} {rec : Record} {p : Patience} (hk : e.record k = some rec)
      (hs : rec.standing = .waiting p) :
      Yields e loading (some rec.client) (((e.leaveQueue rec.resource k).freeSlot k).admission rec.resource)
  | discarded {k : SlotId} {rec : Record} (hk : e.record k = some rec) (hs : rec.isLive = false) :
      Yields e loading (some rec.client) (e.freeSlot k)
  | acknowledged {k : SlotId} {rec : Record} {named : Unseen} (hk : e.record k = some rec)
      (hs : rec.standing.acknowledged named = false) :
      Yields e loading (some rec.client) (e.putRecord k { rec with unseen := rec.unseen.without named })
  | forced {k : SlotId} {rec : Record} {h : Held} (hk : e.record k = some rec) (hs : rec.standing = .held h) :
      Yields e loading none ((e.revoke k .forced).admission rec.resource)
  | dropped {k : SlotId} {rec : Record} {p : Patience} (hk : e.record k = some rec) (hs : rec.standing = .waiting p) :
      Yields e loading none ((e.lapse k .forced).admission rec.resource)
  | defined {r : ResourceId} {d : Definition} (ho : (e.run r).state = .offline) (hd : d.valid r = true) :
      Yields e loading none (e.setDefn r d)
  | profiled {p : Fin 4} {x : Profile} (hx : x.valid = true) : Yields e loading none ((e.setProfile p x).rerunBands p)
  | quota (n : Client) (q : Nat) : Yields e loading none (e.setSession n { e.session n with quota := q })
  | bars (n : Client) : Yields e loading none ((e.barSession n).setSessionState n .barred)
  | unbars {n : Client} (h : (e.session n).state = .barred) : Yields e loading none (e.setSessionState n .closed)
  | lifted {r : ResourceId} {q : Nat} (h : (e.run r).state = .quarantine q) :
      Yields e loading none ((e.setState r .free).admission r)
  | takenDown (r : ResourceId) : Yields e loading none (e.takeDown r)
  | online {r : ResourceId} (ho : (e.run r).state = .offline) (hd : (e.defn r).defined = true)
      (hs : (e.run r).spent = false) : Yields e loading none ((e.setRun r (e.run r).online).admission r)
  | emptied (f : Faults) : Yields e loading none ({ e with faults := f }.emptied)
  | renewedAll (n : Client) : Yields e loading none (e.renewAll n)
  | ticked : Yields e loading none e.tick
  | pinReset : Yields e loading none e.pinReset
  | loaded (h : loading) (image : Option Memory) (f : Faults) :
      Yields e loading none { e.loaded image with faults := f }

/-! ## Whose request ARB hands -/

/-- The client request a row takes. -/
def requestOf : Instr → Option (ClientKind × Client)
  | .openSession n => some (.openSession, n)
  | .closeSession n => some (.closeSession, n)
  | .status n => some (.status, n)
  | .setHeartbeat n => some (.setHeartbeat, n)
  | .acquire n => some (.acquire, n)
  | .renew n => some (.renew, n)
  | .release n => some (.release, n)
  | .cancel n => some (.cancel, n)
  | .scan n => some (.scan, n)
  | .ack n => some (.ack, n)
  | .queryLease (.client n) => some (.queryLease, n)
  | .queryResource (.client n) => some (.queryResource, n)
  | .checkFence (.client n) => some (.checkFence, n)
  | _ => none

@[simp] theorem requestOf_client (k : ClientKind) (n : Client) : requestOf (k.command n) = some (k, n) := by
  cases k <;> rfl

@[simp] theorem requestOf_mgmt (k : MgmtKind) : requestOf k.command = none := by
  cases k <;> rfl

theorem clientItem_request {s : State} {m n : Client} {c : Instr} {k : ClientKind} (h : s.clientItem m = some c)
    (hc : requestOf c = some (k, n)) : m = n ∧ ∃ q, (s.port n).standing = .queued q ∧ q.kind = k := by
  unfold State.clientItem at h
  split at h
  · rw [Option.some.injEq] at h
    subst h
    exact absurd hc nofun
  · split at h
    · rename_i q hq
      rw [Option.some.injEq] at h
      subst h
      simp only [requestOf_client, Option.some.injEq, Prod.mk.injEq] at hc
      obtain ⟨hk, rfl⟩ := hc
      exact ⟨rfl, q, hq, hk⟩
    · exact absurd h nofun

/-- The client request ARB hands next stands in its client's port. -/
theorem handed_request {s : State} {k : ClientKind} {n : Client} (h : s.handed = some (k.command n)) :
    ∃ q, (s.port n).standing = .queued q ∧ q.kind = k := by
  have hc := requestOf_client k n
  generalize k.command n = c at h hc
  unfold State.handed at h
  split at h
  · exact absurd h nofun
  · split at h
    · rw [Option.some.injEq] at h
      subst h
      exact absurd hc nofun
    · split at h
      · rw [Option.some.injEq] at h
        subst h
        rw [requestOf_mgmt] at hc
        exact absurd hc nofun
      · obtain ⟨m, -, hm⟩ := List.exists_of_findSome?_eq_some h
        exact (clientItem_request hm hc).2

/-! ## The engine a request leaves -/

@[simp] theorem placeClient_engine (s : State) (n : Client) (k : ClientKind) (a : Answer) :
    (s.placeClient n k a).engine = s.engine := rfl

@[simp] theorem placeMgmt_engine (s : State) (k : MgmtKind) (a : Answer) : (s.placeMgmt k a).engine = s.engine := rfl

/-- A client request leaves the engine as it was, or as its own rule leaves it. -/
theorem takeClient_engine {P : Engine → Prop} {s : State} {k : ClientKind} {n : Client}
    {rule : List Byte → State → State × Answer} (h0 : P s.engine)
    (h : ∀ q, q.kind = k → s.clientRefusal n q = none → P (rule q.args (s.serve n)).1.engine) :
    P (s.takeClient k n rule).engine := by
  by_cases hh : s.handed = some (k.command n)
  · obtain ⟨q, hq, hk⟩ := handed_request hh
    rw [takeClient_handed hh hq]
    cases hr : s.clientRefusal n q with
    | none =>
      rw [answerClient_passed hr]
      exact h q hk hr
    | some st =>
      rw [answerClient_refused hr]
      exact h0
  · rw [takeClient_not_handed hh]
    exact h0

/-- A management request leaves the engine as it was, or as its own rule leaves it. -/
theorem takeMgmt_engine {P : Engine → Prop} {s : State} {k : MgmtKind} {rule : List Byte → State → State × Answer}
    (h0 : P s.engine) (h : ∀ args, P (rule args s).1.engine) : P (s.takeMgmt k rule).engine := by
  unfold State.takeMgmt
  split
  · split
    · rename_i q hq
      simp only [State.answerMgmt]
      split
      · exact h q.args
      · exact h0
    · exact h0
  · exact h0

theorem withHandle_engine {P : Engine → Prop} {s : State} {owner : Option Client} {w : Nat}
    {rule : SlotId → Record → State × Answer} (h0 : P s.engine)
    (h : ∀ k rec, s.engine.record k = some rec → (∀ n, owner = some n → rec.client = n) → P (rule k rec).1.engine) :
    P (s.withHandle owner w rule).1.engine := by
  unfold State.withHandle
  split
  · exact h0
  · rename_i rec hc
    have hrec : s.engine.record (handleSlot w) = some rec := by
      unfold Engine.current at hc
      split at hc
      · exact hc
      · exact absurd hc nofun
    split
    · exact h _ _ hrec nofun
    · split
      · rename_i n hn
        exact h _ _ hrec fun m hm => by rw [hn, Option.some.inj hm]
      · exact h0

theorem withResource_engine {P : Engine → Prop} {s : State} {number : Nat} {rule : ResourceId → State × Answer}
    (h0 : P s.engine) (h : ∀ r, r.val = number → P (rule r).1.engine) : P (s.withResource number rule).1.engine := by
  unfold State.withResource
  split
  · exact h _ rfl
  · exact h0

theorem withClient_engine {P : Engine → Prop} {s : State} {number : Nat} {rule : Client → State × Answer}
    (h0 : P s.engine) (h : ∀ n, P (rule n).1.engine) : P (s.withClient number rule).1.engine := by
  unfold State.withClient
  split
  · exact h _
  · exact h0

/-! ## Ranges of arguments -/

theorem argByte_lt (args : List Byte) (i : Nat) : argByte args i < 256 := (args.getD i 0).isLt

theorem argWord_lt (args : List Byte) (i : Nat) : argWord args i < 65536 := by
  have h0 := argByte_lt args i
  have h1 := argByte_lt args (i + 1)
  unfold argWord
  omega

/-- A definition that R26 accepts is valid. -/
theorem valid_of_definitionOf {r : ResourceId} {f : Nat → Nat} {d : Definition} (h : definitionOf r.val f = some d)
    (hf : ∀ i, f i < 256) : d.valid r = true := by
  have h2 := hf 2
  have h3 := hf 3
  clear hf
  unfold definitionOf at h
  simp only at h
  split_ifs at h with h1 h4 h5 h6 h7 <;> cases h
  all_goals
    simp_all [Definition.valid]
    omega

/-! ## Each request's rule -/

section Rules

variable {s : State} {loading : Prop}

theorem openRule_yields (n : Client) (args : List Byte) :
    s.engine.Yields loading (some n) (openRule n args s).1.engine := by
  unfold openRule
  split
  · exact .opens n ‹_›
  · exact .reopens n
  · exact .unchanged _

theorem setHeartbeatRule_engine (n : Client) (args : List Byte) : (setHeartbeatRule n args s).1.engine = s.engine := by
  unfold setHeartbeatRule
  split <;> rfl

theorem acquireRule_yields {n : Client} (ho : (s.engine.session n).state = .opened) (args : List Byte) :
    s.engine.Yields loading (some n) (acquireRule n args s).1.engine := by
  unfold acquireRule
  split
  · exact .unchanged _
  · rename_i a ha
    refine withResource_engine (.unchanged _) fun r _ => ?_
    simp only
    split
    · exact .unchanged _
    · rename_i hr
      split
      · exact .unchanged _
      · rename_i k hk
        split
        · rename_i hg
          split
          · exact .exhausted n ‹_›
          · rename_i hf
            exact .granted ho ha hr hk hg (Bool.eq_false_iff.mpr hf)
        · rename_i hg
          exact .joined ho ha hr hk (Bool.eq_false_iff.mpr hg)

theorem renewTerm_range {args : List Byte} (h : renewTerm args ≠ some 0) (v : Nat) (hv : renewTerm args = some v) :
    1 ≤ v ∧ v ≤ 65535 := by
  have hne : v ≠ 0 := fun hz => h (hz ▸ hv)
  unfold renewTerm at hv
  split at hv
  · cases hv
    have := argWord_lt args 2
    omega
  · exact absurd hv nofun

theorem renewRule_yields (n : Client) (args : List Byte) :
    s.engine.Yields loading (some n) (renewRule n args s).1.engine := by
  unfold renewRule
  split
  · exact .unchanged _
  · rename_i ht
    refine withHandle_engine (.unchanged _) fun k rec hk hn => ?_
    obtain rfl := hn n rfl
    split
    · rename_i h hs
      split
      · exact .unchanged _
      · exact .renewed hk hs (renewTerm_range ht)
    · exact .unchanged _
    · exact .unchanged _
    · exact .unchanged _

theorem releaseRule_yields (n : Client) (args : List Byte) :
    s.engine.Yields loading (some n) (releaseRule n args s).1.engine := by
  refine withHandle_engine (.unchanged _) fun k rec hk hn => ?_
  obtain rfl := hn n rfl
  split
  · exact .released hk ‹_›
  · exact .unchanged _
  · rename_i f c hs
    exact .discarded hk (by rw [Record.isLive, hs]; rfl)
  · exact .unchanged _

theorem cancelRule_yields (n : Client) (args : List Byte) :
    s.engine.Yields loading (some n) (cancelRule n args s).1.engine := by
  refine withHandle_engine (.unchanged _) fun k rec hk hn => ?_
  obtain rfl := hn n rfl
  split
  · exact .cancelled hk ‹_›
  · exact .unchanged _
  · exact .unchanged _
  · rename_i c hs
    exact .discarded hk (by rw [Record.isLive, hs]; rfl)

/-- Only a tombstone's terminal member can be acknowledged (R144). -/
theorem not_isLive_of_acknowledged {x : Standing} {named : Unseen} (h : x.acknowledged named = true) :
    x.isLive = false := by
  cases x with
  | waiting p => exact absurd h nofun
  | held g => exact absurd h nofun
  | _ => rfl

theorem ackRule_yields (n : Client) (args : List Byte) :
    s.engine.Yields loading (some n) (ackRule n args s).1.engine := by
  unfold ackRule
  split
  · exact .unchanged _
  · refine withHandle_engine (.unchanged _) fun k rec hk hn => ?_
    obtain rfl := hn n rfl
    simp only
    split
    · rename_i hs
      exact .discarded hk (not_isLive_of_acknowledged hs)
    · rename_i hs
      exact .acknowledged hk (Bool.eq_false_iff.mpr hs)

theorem scanRule_engine (n : Client) (args : List Byte) : (scanRule n args s).1.engine = s.engine := by
  unfold scanRule
  simp only
  split <;> rfl

theorem queryLeaseRule_engine (owner : Option Client) (args : List Byte) :
    (queryLeaseRule owner args s).1.engine = s.engine :=
  withHandle_engine (P := (· = s.engine)) rfl fun _ _ _ _ => rfl

theorem queryResourceRule_engine (args : List Byte) : (queryResourceRule args s).1.engine = s.engine :=
  withResource_engine (P := (· = s.engine)) rfl fun _ _ => rfl

theorem checkFenceRule_engine (args : List Byte) : (checkFenceRule args s).1.engine = s.engine :=
  withResource_engine (P := (· = s.engine)) rfl fun _ _ => rfl

theorem forceRevokeRule_yields (args : List Byte) : s.engine.Yields loading none (forceRevokeRule args s).1.engine := by
  refine withHandle_engine (.unchanged _) fun k rec hk _ => ?_
  split
  · exact .forced hk ‹_›
  · exact .dropped hk ‹_›
  · exact .unchanged _
  · exact .unchanged _

theorem defineResourceRule_yields (args : List Byte) :
    s.engine.Yields loading none (defineResourceRule args s).1.engine := by
  unfold defineResourceRule
  split
  · exact .unchanged _
  · rename_i d hd
    refine withResource_engine (.unchanged _) fun r hr => ?_
    split
    · rw [← hr] at hd
      exact .defined ‹_› (valid_of_definitionOf hd fun i => argByte_lt _ _)
    · exact .unchanged _

theorem readDefinitionRule_engine (args : List Byte) : (readDefinitionRule args s).1.engine = s.engine :=
  withResource_engine (P := (· = s.engine)) rfl fun _ _ => rfl

theorem setProfileRule_yields (args : List Byte) : s.engine.Yields loading none (setProfileRule args s).1.engine := by
  unfold setProfileRule
  split
  · simp only
    split
    · exact .unchanged _
    · rename_i hr
      split
      · exact .unchanged _
      · rename_i ho
        exact .profiled (by rw [Profile.valid, Decidable.not_not.mp hr, Decidable.not_not.mp ho]; rfl)
  · exact .unchanged _

theorem readProfileRule_engine (args : List Byte) : (readProfileRule args s).1.engine = s.engine := by
  unfold readProfileRule
  split <;> rfl

theorem setDividerRule_engine (args : List Byte) : (setDividerRule args s).1.engine = s.engine := by
  unfold setDividerRule
  simp only
  split <;> rfl

theorem resting_iff {x : ResourceState} : x.resting = true ↔ ∃ q, x = .quarantine q := by
  cases x <;> simp [ResourceState.resting]

theorem liftRule_yields (args : List Byte) : s.engine.Yields loading none (liftRule args s).1.engine := by
  refine withResource_engine (.unchanged _) fun r _ => ?_
  split
  · rename_i h
    obtain ⟨q, hq⟩ := resting_iff.mp h
    exact .lifted hq
  · exact .unchanged _

theorem takeOfflineRule_yields (args : List Byte) : s.engine.Yields loading none (takeOfflineRule args s).1.engine := by
  unfold takeOfflineRule
  split
  · exact .unchanged _
  · refine withResource_engine (.unchanged _) fun r _ => ?_
    simp only
    split
    · exact .unchanged _
    · split
      · exact .unchanged _
      · exact .takenDown r

theorem bringOnlineRule_yields (args : List Byte) : s.engine.Yields loading none (bringOnlineRule args s).1.engine := by
  refine withResource_engine (.unchanged _) fun r _ => ?_
  simp only
  split
  · exact .unchanged _
  · rename_i ho
    split
    · exact .unchanged _
    · rename_i hd
      split
      · exact .unchanged _
      · rename_i hs
        exact .online (Decidable.not_not.mp ho) (Decidable.not_not.mp hd) (Bool.eq_false_iff.mpr hs)

theorem barRule_yields (args : List Byte) : s.engine.Yields loading none (barRule args s).1.engine := by
  refine withClient_engine (.unchanged _) fun n => ?_
  split
  · exact .unchanged _
  · exact .bars n

theorem unbarRule_yields (args : List Byte) : s.engine.Yields loading none (unbarRule args s).1.engine := by
  refine withClient_engine (.unchanged _) fun n => ?_
  split
  · exact .unbars ‹_›
  · exact .unchanged _

theorem setQuotaRule_yields (args : List Byte) : s.engine.Yields loading none (setQuotaRule args s).1.engine := by
  refine withClient_engine (.unchanged _) fun n => ?_
  simp only
  split
  · exact .quota n _
  · exact .unchanged _

theorem querySessionRule_engine (args : List Byte) : (querySessionRule args s).1.engine = s.engine :=
  withClient_engine (P := (· = s.engine)) rfl fun _ => rfl

theorem partStatusRule_yields (args : List Byte) : s.engine.Yields loading none (partStatusRule args s).1.engine := by
  unfold partStatusRule
  split
  · exact .unchanged _
  · exact .faults _

theorem captureRule_engine (args : List Byte) : (captureRule args s).1.engine = s.engine := by
  unfold captureRule
  split <;> rfl

theorem writeStagingRule_engine (args : List Byte) : (writeStagingRule args s).1.engine = s.engine := by
  unfold writeStagingRule
  simp only
  split
  · rfl
  · split <;> rfl

theorem readStagingRule_engine (args : List Byte) : (readStagingRule args s).1.engine = s.engine := by
  unfold readStagingRule
  simp only
  split <;> rfl

theorem burnRule_engine (args : List Byte) : (burnRule args s).1.engine = s.engine := by
  unfold burnRule
  split
  · rfl
  · split
    · rfl
    · split
      · rfl
      · split <;> rfl

end Rules

/-! ## Every command -/

theorem yields_of_eq {loading : Prop} {e e' : Engine} (who : Option Client) (h : e' = e) :
    e.Yields loading who e' := by
  subst h
  exact .unchanged who

/-- A request that passes the session checks is of a client whose session is OPEN (R119). -/
theorem opened_of_not_refused {s : State} {n : Client} {q : Request ClientKind} (hk : q.kind.sessionChecked = true)
    (h : s.clientRefusal n q = none) : (s.engine.session n).state = .opened := by
  unfold State.clientRefusal at h
  split at h
  · exact absurd h nofun
  · rw [if_pos hk, Session.check] at h
    split at h
    · exact absurd h nofun
    · exact absurd h nofun
    · assumption

/-- What a client's request can do to the lease engine. -/
theorem exec_client_yields {k : ClientKind} {n : Client} {s t : State} (h : exec (k.command n) s = .next t) :
    s.engine.Yields (s.load.isSome = true) (some n) t.engine := by
  cases k <;> cases h <;> refine takeClient_engine (.unchanged _) fun q hq hr => ?_
  case openSession => exact openRule_yields (s := s.serve n) n _
  case closeSession => exact .closes n
  case status => exact .unchanged _
  case setHeartbeat => exact yields_of_eq _ (setHeartbeatRule_engine (s := s.serve n) n _)
  case acquire => exact acquireRule_yields (s := s.serve n) (opened_of_not_refused (by rw [hq]; rfl) hr) _
  case renew => exact renewRule_yields (s := s.serve n) n _
  case release => exact releaseRule_yields (s := s.serve n) n _
  case cancel => exact cancelRule_yields (s := s.serve n) n _
  case scan => exact yields_of_eq _ (scanRule_engine (s := s.serve n) n _)
  case ack => exact ackRule_yields (s := s.serve n) n _
  case queryLease => exact yields_of_eq _ (queryLeaseRule_engine (s := s.serve n) _ _)
  case queryResource => exact yields_of_eq _ (queryResourceRule_engine (s := s.serve n) _)
  case checkFence => exact yields_of_eq _ (checkFenceRule_engine (s := s.serve n) _)

/-- What a management request other than SERVICE RESET can do to the lease engine. -/
theorem exec_mgmt_yields {k : MgmtKind} {s t : State} (hk : k ≠ .serviceReset) (h : exec k.command s = .next t) :
    s.engine.Yields (s.load.isSome = true) none t.engine := by
  cases k
  case serviceReset => exact absurd rfl hk
  all_goals cases h; refine takeMgmt_engine (.unchanged _) fun args => ?_
  case queryLease => exact yields_of_eq _ (queryLeaseRule_engine _ _)
  case queryResource => exact yields_of_eq _ (queryResourceRule_engine _)
  case checkFence => exact yields_of_eq _ (checkFenceRule_engine _)
  case defineResource => exact defineResourceRule_yields _
  case readDefinition => exact yields_of_eq _ (readDefinitionRule_engine _)
  case setProfile => exact setProfileRule_yields _
  case readProfile => exact yields_of_eq _ (readProfileRule_engine _)
  case setQuota => exact setQuotaRule_yields _
  case setDivider => exact yields_of_eq _ (setDividerRule_engine _)
  case bar => exact barRule_yields _
  case unbar => exact unbarRule_yields _
  case forceRevoke => exact forceRevokeRule_yields _
  case lift => exact liftRule_yields _
  case takeOffline => exact takeOfflineRule_yields _
  case bringOnline => exact bringOnlineRule_yields _
  case enterSafe => exact .emptied s.engine.faults
  case partStatus => exact partStatusRule_yields _
  case querySession => exact yields_of_eq _ (querySessionRule_engine _)
  case capture => exact yields_of_eq _ (captureRule_engine _)
  case writeStaging => exact yields_of_eq _ (writeStagingRule_engine _)
  case readStaging => exact yields_of_eq _ (readStagingRule_engine _)
  case burn => exact yields_of_eq _ (burnRule_engine _)
  all_goals exact .unchanged _

/-- A cut burn leaves the lease engine as it was. -/
theorem cutBurn_engine (s : State) : s.cutBurn.engine = s.engine := by
  rw [cutBurn_eq]

/-- A SERVICE RESET empties the engine, its fault summary raised where a burn is cut. -/
theorem restart_engine (s : State) : ∃ f, s.restart.engine = { s.engine with faults := f }.emptied := by
  simp only [State.restart, State.setEngine_engine, State.resetBlocks, cutBurn_engine, State.markCut]
  split
  · exact ⟨_, rfl⟩
  · exact ⟨s.engine.faults, rfl⟩

/-- A tick produced leaves the lease engine but for the fault summary. -/
theorem produceTick_engine (s : State) (hb : Vector Bool 6) :
    ∃ f, (s.produceTick hb).engine = { s.engine with faults := f } := by
  simp only [State.produceTick, State.countTick]
  split
  · exact ⟨s.engine.faults, rfl⟩
  · exact ⟨_, rfl⟩

theorem takeTickIf_yields (s : State) (p : Bool) (loading : Prop) :
    s.engine.Yields loading none (s.takeTickIf p).engine := by
  unfold State.takeTickIf
  split
  · exact .ticked
  · exact .unchanged _

theorem execBurnEnd_yields {misread : List (Fin 512 × Byte)} {s t : State} (loading : Prop)
    (h : execBurnEnd misread s = .next t) : s.engine.Yields loading none t.engine := by
  unfold execBurnEnd at h
  cases h
  split
  · exact .unchanged _
  · simp only
    split
    · exact .unchanged _
    · exact .faults _

/-- What a transaction on either bus does to the lease engine: nothing. -/
theorem serveFetch_engine (s : State) (n : Client) (clocked : Nat) : (s.serveFetch n clocked).engine = s.engine := by
  unfold State.serveFetch
  split <;> rfl

theorem serveRequest_engine (s : State) (n : Client) (bytes : List Byte) :
    (s.serveRequest n bytes).engine = s.engine := by
  unfold State.serveRequest
  split <;> rfl

theorem mportWrite_engine (s : State) (address : BitVec 7) (bytes : List Byte) :
    (s.mportWrite address bytes).engine = s.engine := by
  unfold State.mportWrite
  split
  · split <;> rfl
  · rfl

theorem mportRead_engine (s : State) (address : BitVec 7) (clocked : Nat) :
    (s.mportRead address clocked).engine = s.engine := by
  unfold State.mportRead
  split <;> rfl

/-- What the end of a load does to the lease engine. -/
theorem finishLoad_engine (s : State) (src : LoadSource) :
    ∃ image f, (s.finishLoad src).engine = { s.engine.loaded image with faults := f } := by
  refine ⟨s.images.imageOf src, s.engine.faults.afterLoad src, ?_⟩
  simp only [State.finishLoad, State.settle_engine]
  split <;> rfl

/-- What any command but a power-on reset can do to the lease engine. -/
theorem exec_yields {c : Instr} {s t : State} (hc : ∀ a i, c ≠ .powerOnReset a i) (h : exec c s = .next t) :
    ∃ who, s.engine.Yields (s.load.isSome = true) who t.engine := by
  cases c with
  | requestTransaction n select bytes stray =>
    cases h
    refine ⟨none, yields_of_eq _ ?_⟩
    split
    · split
      · exact serveFetch_engine _ _ _
      · exact serveRequest_engine _ _ _
    · rfl
  | fetch n select clocked stray =>
    cases h
    refine ⟨none, yields_of_eq _ ?_⟩
    split
    · exact serveFetch_engine _ _ _
    · rfl
  | managementWrite start bytes =>
    cases h
    refine ⟨none, yields_of_eq _ ?_⟩
    split
    · rfl
    · exact mportWrite_engine _ _ _
  | managementRead start clocked =>
    cases h
    refine ⟨none, yields_of_eq _ ?_⟩
    split
    · rfl
    · exact mportRead_engine _ _ _
  | openSession n => exact ⟨_, exec_client_yields (k := .openSession) h⟩
  | closeSession n => exact ⟨_, exec_client_yields (k := .closeSession) h⟩
  | status n => exact ⟨_, exec_client_yields (k := .status) h⟩
  | setHeartbeat n => exact ⟨_, exec_client_yields (k := .setHeartbeat) h⟩
  | acquire n => exact ⟨_, exec_client_yields (k := .acquire) h⟩
  | renew n => exact ⟨_, exec_client_yields (k := .renew) h⟩
  | release n => exact ⟨_, exec_client_yields (k := .release) h⟩
  | cancel n => exact ⟨_, exec_client_yields (k := .cancel) h⟩
  | scan n => exact ⟨_, exec_client_yields (k := .scan) h⟩
  | ack n => exact ⟨_, exec_client_yields (k := .ack) h⟩
  | queryLease sender =>
    cases sender with
    | client n => exact ⟨_, exec_client_yields (k := .queryLease) h⟩
    | management => exact ⟨_, exec_mgmt_yields (k := .queryLease) nofun h⟩
  | queryResource sender =>
    cases sender with
    | client n => exact ⟨_, exec_client_yields (k := .queryResource) h⟩
    | management => exact ⟨_, exec_mgmt_yields (k := .queryResource) nofun h⟩
  | checkFence sender =>
    cases sender with
    | client n => exact ⟨_, exec_client_yields (k := .checkFence) h⟩
    | management => exact ⟨_, exec_mgmt_yields (k := .checkFence) nofun h⟩
  | defineResource => exact ⟨_, exec_mgmt_yields (k := .defineResource) nofun h⟩
  | readDefinition => exact ⟨_, exec_mgmt_yields (k := .readDefinition) nofun h⟩
  | setProfile => exact ⟨_, exec_mgmt_yields (k := .setProfile) nofun h⟩
  | readProfile => exact ⟨_, exec_mgmt_yields (k := .readProfile) nofun h⟩
  | setQuota => exact ⟨_, exec_mgmt_yields (k := .setQuota) nofun h⟩
  | setDivider => exact ⟨_, exec_mgmt_yields (k := .setDivider) nofun h⟩
  | bar => exact ⟨_, exec_mgmt_yields (k := .bar) nofun h⟩
  | unbar => exact ⟨_, exec_mgmt_yields (k := .unbar) nofun h⟩
  | forceRevoke => exact ⟨_, exec_mgmt_yields (k := .forceRevoke) nofun h⟩
  | lift => exact ⟨_, exec_mgmt_yields (k := .lift) nofun h⟩
  | takeOffline => exact ⟨_, exec_mgmt_yields (k := .takeOffline) nofun h⟩
  | bringOnline => exact ⟨_, exec_mgmt_yields (k := .bringOnline) nofun h⟩
  | enterMaintenance => exact ⟨_, exec_mgmt_yields (k := .enterMaintenance) nofun h⟩
  | leaveMaintenance => exact ⟨_, exec_mgmt_yields (k := .leaveMaintenance) nofun h⟩
  | enterSafe => exact ⟨_, exec_mgmt_yields (k := .enterSafe) nofun h⟩
  | partStatus => exact ⟨_, exec_mgmt_yields (k := .partStatus) nofun h⟩
  | querySession => exact ⟨_, exec_mgmt_yields (k := .querySession) nofun h⟩
  | capture => exact ⟨_, exec_mgmt_yields (k := .capture) nofun h⟩
  | writeStaging => exact ⟨_, exec_mgmt_yields (k := .writeStaging) nofun h⟩
  | readStaging => exact ⟨_, exec_mgmt_yields (k := .readStaging) nofun h⟩
  | burn => exact ⟨_, exec_mgmt_yields (k := .burn) nofun h⟩
  | bankStatus => exact ⟨_, exec_mgmt_yields (k := .bankStatus) nofun h⟩
  | serviceReset =>
    cases h
    split
    · obtain ⟨f, hf⟩ := restart_engine (s.placeMgmt .serviceReset (.bare .ok))
      rw [State.settle_engine, hf]
      exact ⟨none, .emptied f⟩
    · exact ⟨none, .unchanged _⟩
  | restartComplete =>
    cases h
    refine ⟨none, yields_of_eq _ ?_⟩
    split <;> rfl
  | burnEnd misread => exact ⟨none, execBurnEnd_yields _ h⟩
  | tick hb =>
    cases h
    split
    · obtain ⟨f, hf⟩ := produceTick_engine s hb
      rw [hf]
      exact ⟨none, .faults f⟩
    · exact ⟨none, .unchanged _⟩
  | tickTaken =>
    cases h
    exact ⟨none, takeTickIf_yields _ _ _⟩
  | lapse k =>
    cases h
    exact ⟨none, takeTickIf_yields _ _ _⟩
  | expiry k =>
    cases h
    exact ⟨none, takeTickIf_yields _ _ _⟩
  | quarantineEnd r =>
    cases h
    exact ⟨none, takeTickIf_yields _ _ _⟩
  | renewAll n =>
    cases h
    refine ⟨none, ?_⟩
    split
    · exact .renewedAll n
    · exact .unchanged _
  | powerOnReset a i => exact absurd rfl (hc a i)
  | resetPinAssert =>
    rw [execResetPinAssert_eq] at h
    cases h
    exact ⟨none, .pinReset⟩
  | resetPinRelease a i =>
    cases h
    refine ⟨none, yields_of_eq _ ?_⟩
    split <;> rfl
  | loadEnd =>
    cases h
    refine ⟨none, ?_⟩
    split
    · rename_i src hl
      obtain ⟨image, f, hf⟩ := finishLoad_engine s src
      rw [hf]
      exact .loaded (by rw [hl]; rfl) image f
    · exact .unchanged _

/-- A power-on reset leaves the engine as right after reset (R23, R31, R133). -/
theorem exec_powerOnReset_engine {a : Fin 4} {i : Bool} {s t : State} (h : exec (.powerOnReset a i) s = .next t) :
    t.engine = .powerOn := by
  rw [execPowerOnReset_eq] at h
  cases h
  rfl

/-- One reference period leaves the lease engine but for the fault summary. -/
theorem referencePeriod_yields (s : State) (loading : Prop) :
    s.engine.Yields loading none s.referencePeriod.engine := by
  unfold State.referencePeriod
  split
  · split
    · obtain ⟨f, hf⟩ := produceTick_engine s s.hbPins
      rw [hf]
      exact .faults f
    · exact .unchanged _
  · exact .unchanged _

/-- What a step can do to the lease engine: what a command can, or set it as right after reset. -/
theorem step_yields {s t : State} (h : step s = .next t) :
    (∃ who, s.engine.Yields (s.load.isSome = true) who t.engine) ∨ t.engine = .powerOn := by
  have hexec : ∀ {c : Instr} {s' : State}, exec c s' = .next t →
      (∃ who, s'.engine.Yields (s'.load.isSome = true) who t.engine) ∨ t.engine = .powerOn := by
    intro c s' hc
    by_cases hp : ∃ a i, c = .powerOnReset a i
    · obtain ⟨a, i, rfl⟩ := hp
      exact .inr (exec_powerOnReset_engine hc)
    · push Not at hp
      exact .inl (exec_yields hp hc)
  unfold step at h
  split at h
  · unfold idle at h
    split at h
    · exact hexec h
    · cases h
      exact .inl ⟨none, referencePeriod_yields s _⟩
  · rename_i c rest _
    exact hexec (s' := { s with pending := rest }) h

end Sys2Proof.Machine
end

section
/-! PROOF. What becomes of the records of the lease table: an operation either changes records in their slots, keeping
slot, generation and claim, or frees them. -/

namespace Sys2Proof.Machine

/-! ## Records that stand in their slots -/

/-- A record stands as `rec'` where `rec` stood: its claim is kept, and it has not come back to life (R7). -/
structure Record.Persists (rec rec' : Record) : Prop where
  claim : rec.sameClaim rec'
  live : rec'.isLive = true → rec.isLive = true
  waiting : rec'.isWaiting = true → rec.isWaiting = true

theorem Record.Persists.refl (rec : Record) : rec.Persists rec := ⟨⟨rfl, rfl, rfl, rfl, rfl⟩, id, id⟩

theorem Record.Persists.trans {a b c : Record} (h : a.Persists b) (h' : b.Persists c) : a.Persists c := by
  obtain ⟨⟨h1, h2, h3, h4, h5⟩, hl, hw⟩ := h
  obtain ⟨⟨h1', h2', h3', h4', h5'⟩, hl', hw'⟩ := h'
  exact ⟨⟨h1'.trans h1, h2'.trans h2, h3'.trans h3, h4'.trans h4, h5'.trans h5⟩, hl ∘ hl', hw ∘ hw'⟩

/-- The operation leaves every session, every generation and every FREE slot, and each record stands in its slot. -/
structure Engine.InPlace (e e' : Engine) : Prop where
  sessions : e'.sessions = e.sessions
  generation : ∀ k, (e'.slot k).generation = (e.slot k).generation
  records : ∀ k, Option.Rel Record.Persists (e.record k) (e'.record k)

theorem optionRel_refl {α : Type} {p : α → α → Prop} (h : ∀ a, p a a) (x : Option α) : Option.Rel p x x := by
  cases x with
  | none => exact .none
  | some a => exact .some (h a)

theorem optionRel_trans {α : Type} {p : α → α → Prop} (h : ∀ {a b c}, p a b → p b c → p a c) {x y z : Option α}
    (hx : Option.Rel p x y) (hy : Option.Rel p y z) : Option.Rel p x z := by
  cases hx with
  | none => exact hy
  | some hab => cases hy with
    | some hbc => exact .some (h hab hbc)

theorem Engine.InPlace.refl (e : Engine) : e.InPlace e := ⟨rfl, fun _ => rfl, fun _ => optionRel_refl .refl _⟩

theorem Engine.InPlace.trans {a b c : Engine} (h : a.InPlace b) (h' : b.InPlace c) : a.InPlace c :=
  ⟨h'.sessions.trans h.sessions, fun k => (h'.generation k).trans (h.generation k),
    fun k => optionRel_trans .trans (h.records k) (h'.records k)⟩

/-- An operation on resources, profiles or the fault summary alone. -/
theorem Engine.InPlace.of_eq {e e' : Engine} (hs : e'.sessions = e.sessions) (hk : e'.slots = e.slots) :
    e.InPlace e' := by
  have hslot : ∀ k, e'.slot k = e.slot k := fun k => by rw [Engine.slot, hk]; rfl
  refine ⟨hs, fun k => by rw [hslot], fun k => ?_⟩
  rw [Engine.record, Engine.record, hslot]
  exact optionRel_refl .refl _

theorem inPlace_setRun (e : Engine) (r : ResourceId) (x : Run) : e.InPlace (e.setRun r x) := .of_eq rfl rfl

theorem inPlace_setState (e : Engine) (r : ResourceId) (st : ResourceState) : e.InPlace (e.setState r st) :=
  inPlace_setRun _ _ _

theorem inPlace_depart (e : Engine) (r : ResourceId) (m : Mode) : e.InPlace (e.depart r m) := inPlace_setRun _ _ _

theorem inPlace_joinHolders (e : Engine) (r : ResourceId) (m : Mode) : e.InPlace (e.joinHolders r m) :=
  inPlace_setRun _ _ _

theorem inPlace_mapRecords {e : Engine} {f : SlotId → Record → Record}
    (h : ∀ k rec, e.record k = some rec → rec.Persists (f k rec)) : e.InPlace (e.mapRecords f) := by
  refine ⟨rfl, Engine.generation_mapRecords e f, fun k => ?_⟩
  rw [Engine.record_mapRecords]
  cases hk : e.record k with
  | none => exact .none
  | some rec => exact .some (h k rec hk)

theorem inPlace_putRecord {e : Engine} {k : SlotId} {rec rec' : Record} (hk : e.record k = some rec)
    (h : rec.Persists rec') : e.InPlace (e.putRecord k rec') := by
  refine ⟨rfl, fun j => Engine.generation_putRecord e k j rec', fun j => ?_⟩
  rw [Engine.record_putRecord]
  split
  · rename_i hkj
    rw [← hkj, hk]
    exact .some h
  · exact optionRel_refl .refl _

/-! ## Changes of one record (R7) -/

/-- A change of the held fields or of the notices of a record. -/
theorem Record.Persists.of_standing {rec rec' : Record} (h : rec.sameClaim rec')
    (hl : rec'.standing.isLive = true → rec.standing.isLive = true)
    (hw : rec'.standing.isWaiting = true → rec.standing.isWaiting = true) : rec.Persists rec' := ⟨h, hl, hw⟩

theorem squeeze_persists (lead c : Nat) (rec : Record) : rec.Persists (rec.squeeze lead c) := by
  unfold Record.squeeze
  split
  · rename_i h hs
    split
    · exact .of_standing ⟨rfl, rfl, rfl, rfl, rfl⟩ (fun _ => by rw [hs]; rfl) nofun
    · exact .refl rec
  · exact .refl rec

theorem revoke_persists (c : Cause) (rec : Record) : rec.Persists (rec.revoke c) := by
  unfold Record.revoke
  split
  · exact .of_standing ⟨rfl, rfl, rfl, rfl, rfl⟩ nofun nofun
  · exact .refl rec

theorem lapse_persists (c : Cause) (rec : Record) : rec.Persists (rec.lapse c) := by
  unfold Record.lapse
  split
  · exact .of_standing ⟨rfl, rfl, rfl, rfl, rfl⟩ nofun nofun
  · exact .refl rec

theorem grant_persists {rec : Record} (hw : rec.isWaiting = true) (h : Held) : rec.Persists (rec.grant h) := by
  refine .of_standing ⟨rfl, rfl, rfl, rfl, rfl⟩ (fun _ => ?_) nofun
  rw [Standing.isLive, show rec.standing.isWaiting = true from hw]
  rfl

theorem renewed_persists (e : Engine) {rec : Record} {h : Held} (hs : rec.standing = .held h) (term : Option Nat) :
    rec.Persists (e.renewed rec h term).1 :=
  .of_standing ⟨rfl, rfl, rfl, rfl, rfl⟩ (fun _ => by rw [hs]; rfl) nofun

theorem unseen_persists (rec : Record) (u : Unseen) : rec.Persists { rec with unseen := u } :=
  ⟨⟨rfl, rfl, rfl, rfl, rfl⟩, id, id⟩

theorem countdown_persists (lead : Nat) (rec : Record) : rec.Persists (rec.countdown lead) := by
  unfold Record.countdown
  split
  · rename_i p hs
    exact .of_standing ⟨rfl, rfl, rfl, rfl, rfl⟩ (fun _ => by rw [hs]; rfl) (fun _ => by rw [hs]; rfl)
  · rename_i h hs
    exact .of_standing ⟨rfl, rfl, rfl, rfl, rfl⟩ (fun _ => by rw [hs]; rfl) nofun
  · exact .refl rec

theorem renewLine_persists (e : Engine) (n : Client) (rec : Record) : rec.Persists (e.renewLine n rec) := by
  unfold Engine.renewLine
  split
  · rename_i h hs
    split
    · exact renewed_persists e hs none
    · exact .refl rec
  · exact .refl rec

/-! ## Operations of the engine that keep every record in its slot -/

theorem inPlace_bandRule (e : Engine) (r : ResourceId) : e.InPlace (e.bandRule r) := by
  unfold Engine.bandRule
  simp only
  split
  · refine (inPlace_setRun _ _ _).trans (inPlace_mapRecords fun k rec _ => ?_)
    split
    · exact squeeze_persists _ _ rec
    · exact .refl rec
  · exact inPlace_setRun _ _ _

theorem inPlace_leaveQueue (e : Engine) (r : ResourceId) (k : SlotId) : e.InPlace (e.leaveQueue r k) :=
  (inPlace_setRun _ _ _).trans (inPlace_bandRule _ _)

theorem inPlace_takeDown (e : Engine) (r : ResourceId) : e.InPlace (e.takeDown r) := by
  refine (inPlace_mapRecords fun k rec _ => ?_).trans (inPlace_setRun _ _ _)
  split
  · exact (revoke_persists _ rec).trans (lapse_persists _ _)
  · exact .refl rec

theorem inPlace_exhaust (e : Engine) (r : ResourceId) : e.InPlace (e.exhaust r) :=
  (inPlace_takeDown e r).trans (.of_eq rfl rfl)

/-- The head record of a queue is a WAITING record in its slot. -/
theorem head_record {e : Engine} {r : ResourceId} {k : SlotId} {rec : Record} (h : e.head r = some (k, rec)) :
    (e.run r).queue.head? = some k ∧ e.record k = some rec ∧ rec.isWaiting = true := by
  unfold Engine.head at h
  split at h
  · exact absurd h nofun
  · rename_i j q hq
    rw [hq]
    split at h
    · rename_i x hx
      split at h
      · cases h
        exact ⟨rfl, hx, ‹_›⟩
      · exact absurd h nofun
    · exact absurd h nofun

theorem not_isHeld_of_isWaiting {rec : Record} (h : rec.isWaiting = true) : rec.isHeld = false := by
  unfold Record.isWaiting Standing.isWaiting at h
  unfold Record.isHeld Standing.isHeld
  split at h
  · simp_all
  · exact absurd h nofun

theorem inPlace_grantHead {e : Engine} {r : ResourceId} {k : SlotId} {rec : Record} (h : e.head r = some (k, rec)) :
    e.InPlace (e.grantHead r k rec) := by
  obtain ⟨-, hk, hw⟩ := head_record h
  unfold Engine.grantHead
  split
  · exact inPlace_exhaust e r
  · refine ((inPlace_leaveQueue e r k).trans (inPlace_joinHolders _ r rec.mode)).trans
      (inPlace_putRecord (rec := rec) ?_ (grant_persists hw _))
    exact leaveQueue_record_of_not_held hk (not_isHeld_of_isWaiting hw)

/-- What a change of a resource's state to FREE, SHARED or DRAINING and a grant from its queue keep, admission keeps
(R57). -/
theorem admitPasses_induct {P : Engine → Prop} {r : ResourceId}
    (hstate : ∀ e st, st = .free ∨ st = .shared ∨ st = .draining → P e → P (e.setState r st))
    (hgrant : ∀ e k rec, e.head r = some (k, rec) → P e → P (e.grantHead r k rec)) (fuel : Nat) {e : Engine}
    (h : P e) : P (Engine.admitPasses fuel e r) := by
  have hdrained : ∀ e holders, P e → P (e.setState r (if 0 < holders then .shared else .free)) := fun e holders he =>
    hstate e _ (by split <;> simp) he
  induction fuel generalizing e with
  | zero => exact h
  | succ fuel ih =>
    unfold Engine.admitPasses
    split
    · exact h
    · exact h
    · exact h
    · rename_i k rec _ hh
      split
      · split
        · exact h
        · exact hgrant e k rec hh h
      · exact ih (hdrained e _ h)
    · exact ih (hdrained e _ h)
    · exact h
    · exact h
    · rename_i k rec _ hh
      split
      · exact hgrant e k rec hh h
      · split
        · exact ih (hgrant e k rec hh h)
        · exact h
    · rename_i k rec _ hh
      split
      · exact hstate e _ (.inr (.inr rfl)) h
      · split
        · exact ih (hgrant e k rec hh h)
        · exact h

theorem inPlace_admission (e : Engine) (r : ResourceId) : e.InPlace (e.admission r) :=
  admitPasses_induct (P := e.InPlace) (fun _ _ _ h => h.trans (inPlace_setState _ _ _))
    (fun _ _ _ hh h => h.trans (inPlace_grantHead hh)) _ (.refl e)

/-- What every step of a fold keeps, the fold keeps. -/
theorem foldl_invariant {α β : Type} {P : α → Prop} {f : α → β → α} (l : List β) {a : α} (h : P a)
    (hf : ∀ a b, b ∈ l → P a → P (f a b)) : P (l.foldl f a) := by
  induction l generalizing a with
  | nil => exact h
  | cons b l ih =>
    exact ih (hf a b (List.mem_cons_self) h) fun a' b' hb => hf a' b' (List.mem_cons_of_mem b hb)

theorem inPlace_foldl {β : Type} {f : Engine → β → Engine} (hf : ∀ (e : Engine) b, e.InPlace (f e b)) (l : List β)
    (e : Engine) : e.InPlace (l.foldl f e) := foldl_invariant (P := e.InPlace) l (.refl e) fun a b _ h => h.trans (hf a b)

theorem inPlace_admissionWhere (e : Engine) (p : ResourceId → Bool) : e.InPlace (e.admissionWhere p) :=
  inPlace_foldl inPlace_admission _ e

theorem inPlace_revoke (e : Engine) (k : SlotId) (c : Cause) : e.InPlace (e.revoke k c) := by
  unfold Engine.revoke
  split
  · rename_i rec hk
    split
    · have h := (inPlace_putRecord hk (revoke_persists c rec)).trans (inPlace_depart _ rec.resource rec.mode)
      simp only
      split
      · exact h.trans (inPlace_setState _ _ _)
      · exact h
    · exact .refl e
  · exact .refl e

theorem inPlace_lapse (e : Engine) (k : SlotId) (c : Cause) : e.InPlace (e.lapse k c) := by
  unfold Engine.lapse
  split
  · rename_i rec hk
    split
    · rename_i hw
      exact (inPlace_leaveQueue e _ k).trans
        (inPlace_putRecord (leaveQueue_record_of_not_held hk (not_isHeld_of_isWaiting hw)) (lapse_persists c rec))
    · exact .refl e
  · exact .refl e

theorem inPlace_countQuarantine (before e : Engine) (r : ResourceId) :
    e.InPlace (Engine.countQuarantine before e r) := by
  unfold Engine.countQuarantine
  split
  · split
    · exact (inPlace_setState _ _ _).trans (inPlace_admission _ _)
    · exact inPlace_setState _ _ _
  · exact .refl e

theorem inPlace_countdown (e : Engine) : e.InPlace e.countdown :=
  inPlace_mapRecords fun _ rec _ => countdown_persists _ rec

theorem inPlace_lapseStage (e : Engine) (l : List SlotId) : e.InPlace (e.lapseStage l) :=
  (inPlace_foldl (fun e k => inPlace_lapse e k .patience) l e).trans (inPlace_admissionWhere _ _)

theorem inPlace_expireStage (e : Engine) (l : List SlotId) : e.InPlace (e.expireStage l) :=
  (inPlace_foldl (fun e k => inPlace_revoke e k .expired) _ e).trans (inPlace_admissionWhere _ _)

theorem inPlace_tick (e : Engine) : e.InPlace e.tick :=
  ((inPlace_countdown e).trans ((inPlace_lapseStage _ _).trans (inPlace_expireStage _ _))).trans
    (inPlace_foldl (inPlace_countQuarantine e) _ _)

theorem inPlace_renewAll (e : Engine) (n : Client) : e.InPlace (e.renewAll n) := by
  unfold Engine.renewAll
  split
  · exact inPlace_mapRecords fun _ rec _ => renewLine_persists e n rec
  · exact .refl e

theorem inPlace_profiled (e : Engine) (p : Fin 4) (x : Profile) : e.InPlace ((e.setProfile p x).rerunBands p) :=
  (Engine.InPlace.of_eq (e := e) (e' := e.setProfile p x) rfl rfl).trans
    (inPlace_foldl (f := Engine.bandRule) inPlace_bandRule _ _)

/-! ## Records that are freed (R2, R6) -/

/-- Slot `x` has become `y`: its record stands in it, or was freed. A FREE slot is as it was. -/
def Slot.Follows (x y : Slot) : Prop :=
  (y.generation = x.generation ∧ Option.Rel Record.Persists x.record y.record) ∨ y = x.freed

theorem Slot.freed_record (x : Slot) : x.freed.record = none := by rw [Slot.freed_eq]

theorem Slot.freed_of_free {x : Slot} (h : x.record = none) : x.freed = x := by
  obtain ⟨g, rec⟩ := x
  subst h
  rfl

/-- What follows a freed slot is the freed slot. -/
theorem Slot.Follows.of_free {x y : Slot} (hx : x.record = none) (h : x.Follows y) : y = x := by
  rcases h with ⟨hg, hr⟩ | h
  · rw [hx] at hr
    generalize hy : y.record = b at hr
    cases hr
    obtain ⟨g, rec⟩ := x
    obtain ⟨g', rec'⟩ := y
    simp_all
  · rw [h, Slot.freed_of_free hx]

theorem Slot.Follows.trans {x y z : Slot} (h : x.Follows y) (h' : y.Follows z) : x.Follows z := by
  rcases h with ⟨hg, hr⟩ | rfl
  · rcases h' with ⟨hg', hr'⟩ | rfl
    · exact .inl ⟨hg'.trans hg, optionRel_trans .trans hr hr'⟩
    · refine .inr ?_
      have hn : y.record = none ↔ x.record = none := by
        generalize x.record = a, y.record = b at hr
        cases hr <;> simp
      simp only [Slot.freed_eq, hg, hn]
  · exact .inr (Slot.Follows.of_free (Slot.freed_record x) h')

/-- Every record stands in its slot or was freed. -/
def Engine.Follows (e e' : Engine) : Prop := ∀ k, (e.slot k).Follows (e'.slot k)

theorem Engine.Follows.trans {a b c : Engine} (h : a.Follows b) (h' : b.Follows c) : a.Follows c :=
  fun k => (h k).trans (h' k)

theorem Engine.InPlace.follows {e e' : Engine} (h : e.InPlace e') : e.Follows e' :=
  fun k => .inl ⟨h.generation k, h.records k⟩

theorem Engine.Follows.refl (e : Engine) : e.Follows e := (Engine.InPlace.refl e).follows

theorem Engine.Follows.of_slots {e e' : Engine} (h : e'.slots = e.slots) : e.Follows e' :=
  fun k => .inl ⟨by rw [Engine.slot, h]; rfl, by
    rw [Engine.slot, Engine.slot, h]
    exact optionRel_refl .refl _⟩

/-- A record that is there was there before, and stands. -/
theorem Engine.Follows.record {e e' : Engine} (h : e.Follows e') {k : SlotId} {rec' : Record}
    (hk : e'.record k = some rec') : ∃ rec, e.record k = some rec ∧ rec.Persists rec' := by
  rcases h k with ⟨-, hr⟩ | hf
  · rw [show (e'.slot k).record = some rec' from hk] at hr
    generalize hx : (e.slot k).record = x at hr
    cases hr with
    | some hp => exact ⟨_, hx, hp⟩
  · rw [Engine.record, hf, Slot.freed_record] at hk
    exact absurd hk nofun

theorem slot_freeSlot (e : Engine) (k j : SlotId) :
    (e.freeSlot k).slot j = if k = j then (e.slot k).freed else e.slot j := by
  unfold Engine.freeSlot
  split
  · rename_i hk
    split
    · rename_i hkj
      rw [← hkj, Slot.freed_of_free hk]
    · rfl
  · exact Engine.slot_setSlot e k j _

theorem follows_freeSlot (e : Engine) (k : SlotId) : e.Follows (e.freeSlot k) := by
  intro j
  rw [slot_freeSlot]
  split
  · rename_i h
    rw [h]
    exact .inr rfl
  · exact Engine.Follows.refl e j

theorem follows_endRecord (n : Client) (e : Engine) (k : SlotId) : e.Follows (e.endRecord n k) := by
  unfold Engine.endRecord
  split
  · split
    · split
      · exact (inPlace_depart _ _ _).follows.trans (follows_freeSlot _ _)
      · split
        · exact (inPlace_leaveQueue _ _ _).follows.trans (follows_freeSlot _ _)
        · exact follows_freeSlot _ _
    · exact .refl e
  · exact .refl e

theorem follows_barRecord (n : Client) (e : Engine) (k : SlotId) : e.Follows (e.barRecord n k) := by
  unfold Engine.barRecord
  split
  · split
    · split
      · exact (inPlace_revoke _ _ _).follows.trans (follows_freeSlot _ _)
      · split
        · exact (inPlace_leaveQueue _ _ _).follows.trans (follows_freeSlot _ _)
        · exact follows_freeSlot _ _
    · exact .refl e
  · exact .refl e

theorem follows_foldl {β : Type} {f : Engine → β → Engine} (hf : ∀ (e : Engine) b, e.Follows (f e b)) (l : List β)
    (e : Engine) : e.Follows (l.foldl f e) := foldl_invariant (P := e.Follows) l (.refl e) fun a b _ h => h.trans (hf a b)

theorem follows_endSession (e : Engine) (n : Client) : e.Follows (e.endSession n) :=
  (follows_foldl (follows_endRecord n) _ e).trans (inPlace_admissionWhere _ _).follows

theorem follows_barSession (e : Engine) (n : Client) : e.Follows (e.barSession n) :=
  (follows_foldl (follows_barRecord n) _ e).trans (inPlace_admissionWhere _ _).follows

/-- Every slot freed, as at a reset and at entry to SAFE (R23). -/
theorem Engine.Follows.of_freed {e e' : Engine} (h : ∀ k, e'.slot k = (e.slot k).freed) : e.Follows e' :=
  fun k => .inr (h k)

theorem slot_emptied (e : Engine) (k : SlotId) : e.emptied.slot k = (e.slot k).freed := by
  simp [Engine.emptied, Engine.mapRuns, Engine.closeAll, Engine.freeAll, Engine.slot]

theorem slot_pinReset (e : Engine) (k : SlotId) : e.pinReset.slot k = (e.slot k).freed := by
  simp [Engine.pinReset, Engine.mapRuns, Engine.closeAll, Engine.freeAll, Engine.slot]

/-! ## Records that are created (R5) -/

/-- A record is made in the FREE slot `k`, the other records standing in their slots. -/
structure Engine.Creates (e e' : Engine) (k : SlotId) : Prop where
  free : e.record k = none
  generation : ∀ j, (e'.slot j).generation = (e.slot j).generation
  others : ∀ j, j ≠ k → Option.Rel Record.Persists (e.record j) (e'.record j)

theorem firstFree_record {e : Engine} {k : SlotId} (h : e.firstFree = some k) : e.record k = none := by
  have := List.find?_some h
  simpa using this

theorem creates_create {e : Engine} {k : SlotId} (hk : e.record k = none) (rec : Record) :
    e.Creates (e.create k rec) k := by
  refine ⟨hk, fun j => Engine.generation_putRecord e k j rec, fun j hj => ?_⟩
  simp only [Engine.create, Engine.record_setSession, Engine.record_putRecord, if_neg (Ne.symm hj)]
  exact optionRel_refl .refl _

/-- A record made within operations that keep the records in their slots. -/
theorem Engine.Creates.inPlace {e e' e'' : Engine} {k : SlotId} (h : e.Creates e' k) (h' : e'.InPlace e'') :
    e.Creates e'' k :=
  ⟨h.free, fun j => (h'.generation j).trans (h.generation j),
    fun j hj => optionRel_trans .trans (h.others j hj) (h'.records j)⟩

theorem creates_grantAtOnce {e : Engine} {k : SlotId} (hk : e.record k = none) (n : Client) (r : ResourceId)
    (a : AcquireArgs) : e.Creates (e.grantAtOnce n r a k) k :=
  have h := creates_create (e := e.joinHolders r a.mode) hk (a.record n r (.held (e.immediateHeld r a)))
  ⟨hk, h.generation, h.others⟩

theorem creates_join {e : Engine} {k : SlotId} (hk : e.record k = none) (n : Client) (r : ResourceId)
    (a : AcquireArgs) : e.Creates (e.join n r a k) k := by
  have h := fun q => ((creates_create hk (a.record n r (.waiting (patienceOf a.patience)))).inPlace
    (inPlace_setRun _ r q)).inPlace (inPlace_bandRule _ r)
  unfold Engine.join
  simp only
  split
  · exact (h _).inPlace (inPlace_setState _ _ _)
  · exact h _

/-- What a happening makes of the table: its records stand or are freed, or an ACQUIRE that is not refused makes one. -/
theorem Engine.Yields.follows_or_acquires {e e' : Engine} {loading : Prop} {who : Option Client}
    (h : e.Yields loading who e') :
    e.Follows e' ∨ ∃ n r a k, e.acquireRefusal n r a = none ∧ e.record k = none ∧
      (e' = e.grantAtOnce n r a k ∨ e' = e.join n r a k) := by
  cases h
  case granted hr hk _ _ => exact .inr ⟨_, _, _, _, hr, firstFree_record hk, .inl rfl⟩
  case joined hr hk _ => exact .inr ⟨_, _, _, _, hr, firstFree_record hk, .inr rfl⟩
  all_goals left
  case unchanged => exact .refl e
  case faults => exact .of_slots rfl
  case opens => exact .of_slots rfl
  case reopens n => exact (follows_endSession e n).trans (.of_slots rfl)
  case closes n => exact (follows_endSession e n).trans (.of_slots rfl)
  case exhausted => exact (inPlace_exhaust _ _).follows
  case renewed hk hs ht => exact (inPlace_putRecord hk (renewed_persists e hs _)).follows
  case released =>
    exact ((inPlace_depart _ _ _).follows.trans (follows_freeSlot _ _)).trans (inPlace_admission _ _).follows
  case cancelled =>
    exact ((inPlace_leaveQueue _ _ _).follows.trans (follows_freeSlot _ _)).trans (inPlace_admission _ _).follows
  case discarded => exact follows_freeSlot _ _
  case acknowledged hk hs => exact (inPlace_putRecord hk (unseen_persists _ _)).follows
  case forced => exact ((inPlace_revoke _ _ _).trans (inPlace_admission _ _)).follows
  case dropped => exact ((inPlace_lapse _ _ _).trans (inPlace_admission _ _)).follows
  case defined => exact .of_slots rfl
  case profiled => exact (inPlace_profiled _ _ _).follows
  case quota => exact .of_slots rfl
  case bars n => exact (follows_barSession e n).trans (.of_slots rfl)
  case unbars => exact .of_slots rfl
  case lifted => exact ((inPlace_setState _ _ _).trans (inPlace_admission _ _)).follows
  case takenDown => exact (inPlace_takeDown _ _).follows
  case online => exact ((inPlace_setRun _ _ _).trans (inPlace_admission _ _)).follows
  case emptied => exact .of_freed (slot_emptied _)
  case renewedAll => exact (inPlace_renewAll _ _).follows
  case ticked => exact (inPlace_tick e).follows
  case pinReset => exact .of_freed (slot_pinReset e)
  case loaded => exact .of_slots rfl

theorem Engine.Yields.follows_or_creates {e e' : Engine} {loading : Prop} {who : Option Client}
    (h : e.Yields loading who e') : e.Follows e' ∨ ∃ k, e.Creates e' k := by
  rcases h.follows_or_acquires with hf | ⟨n, r, a, k, -, hk, rfl | rfl⟩
  · exact .inl hf
  · exact .inr ⟨k, creates_grantAtOnce hk n r a⟩
  · exact .inr ⟨k, creates_join hk n r a⟩

/-- Settles O58: a record that stands keeps its claim and its generation; one that was freed leaves a freed slot. -/
theorem recordsKeepTheirHandleUntilFreed : Obligations.RecordsKeepTheirHandleUntilFreed := by
  intro c s t h hc k
  obtain ⟨who, hy⟩ := exec_yields hc h
  rcases hy.follows_or_creates with hf | ⟨j, hj⟩
  · rcases hf k with ⟨hg, hr⟩ | hfreed
    · refine ⟨fun _ => hg, fun rec hrec => .inl ?_⟩
      rw [show (s.engine.slot k).record = some rec from hrec] at hr
      generalize hx : (t.engine.slot k).record = x at hr
      cases hr with
      | some hp => exact ⟨_, hx, hp.claim, hg⟩
    · rw [Slot.freed_eq] at hfreed
      refine ⟨fun hn => ?_, fun rec hrec => .inr ?_⟩
      · rw [hfreed, show (s.engine.slot k).record = none from hn]
        rfl
      · rw [Engine.record, hfreed, show (s.engine.slot k).record = some rec from hrec]
        exact ⟨rfl, rfl⟩
  · refine ⟨fun _ => hj.generation k, fun rec hrec => .inl ?_⟩
    have hkj : k ≠ j := fun heq => by
      rw [heq, hj.free] at hrec
      exact absurd hrec nofun
    have hr := hj.others k hkj
    rw [hrec] at hr
    generalize hx : t.engine.record k = x at hr
    cases hr with
    | some hp => exact ⟨_, rfl, hp.claim, hj.generation k⟩

end Sys2Proof.Machine
end

section
/-! PROOF. No client's request ends another client's lease while the fence counters have room. -/

namespace Sys2Proof.Machine

/-- The lease `h` of record `rec` in slot `k` goes on in `e`: held, under its fence and its claim. -/
def Engine.LeaseGoesOn (e : Engine) (k : SlotId) (rec : Record) (h : Held) : Prop :=
  ∃ rec' g, e.record k = some rec' ∧ rec'.standing = .held g ∧ g.fence = h.fence ∧ rec.sameClaim rec'

/-- Every lease of a client other than `n` goes on. -/
def Engine.KeepsLeases (n : Client) (e e' : Engine) : Prop :=
  ∀ k rec h, e.record k = some rec → rec.client ≠ n → rec.standing = .held h → e'.LeaseGoesOn k rec h

/-- Every lease of a client other than `n` goes on where its resource's fence counter has room, and no fence counter and
queue together have grown: a grant takes a waiter for its fence. -/
structure Engine.Spares (n : Client) (e e' : Engine) : Prop where
  room : ∀ r, (e'.run r).fence + (e'.run r).queue.length ≤ (e.run r).fence + (e.run r).queue.length
  leases : ∀ k rec h, e.record k = some rec → rec.client ≠ n → rec.standing = .held h → e.fenceRoom rec.resource →
    e'.LeaseGoesOn k rec h

section Spares

variable {n : Client}

/-- A lease whose record is as it was goes on. -/
theorem lease_goes_on {e : Engine} {k : SlotId} {rec : Record} {h : Held} (hk : e.record k = some rec)
    (hs : rec.standing = .held h) : e.LeaseGoesOn k rec h :=
  ⟨rec, h, hk, hs, rfl, rfl, rfl, rfl, rfl, rfl⟩

/-- A lease that goes on as another goes on where that one does. -/
theorem Engine.LeaseGoesOn.trans {c : Engine} {k : SlotId} {rec rec' : Record} {h h' : Held}
    (hs : h'.fence = h.fence) (hc : rec.sameClaim rec') (h2 : c.LeaseGoesOn k rec' h') : c.LeaseGoesOn k rec h := by
  obtain ⟨hc1, hc2, hc3, hc4, hc5⟩ := hc
  obtain ⟨rec'', z, hk'', hs'', hf'', hd1, hd2, hd3, hd4, hd5⟩ := h2
  exact ⟨rec'', z, hk'', hs'', hf''.trans hs, hd1.trans hc1, hd2.trans hc2, hd3.trans hc3, hd4.trans hc4, hd5.trans hc5⟩

theorem Engine.KeepsLeases.trans {a b c : Engine} (h : a.KeepsLeases n b) (h' : b.KeepsLeases n c) :
    a.KeepsLeases n c := by
  intro k rec x hk hn hs
  obtain ⟨rec', y, hk', hs', hf', hc⟩ := h k rec x hk hn hs
  exact .trans hf' hc (h' k rec' y hk' (by rwa [hc.1]) hs')

theorem Engine.KeepsLeases.spares {e e' : Engine} (h : e.KeepsLeases n e')
    (hroom : ∀ r, (e'.run r).fence + (e'.run r).queue.length ≤ (e.run r).fence + (e.run r).queue.length) :
    e.Spares n e' := ⟨hroom, fun k rec x hk hn hs _ => h k rec x hk hn hs⟩

theorem Engine.Spares.trans {a b c : Engine} (h : a.Spares n b) (h' : b.Spares n c) : a.Spares n c := by
  refine ⟨fun r => (h'.room r).trans (h.room r), fun k rec x hk hn hs hroom => ?_⟩
  obtain ⟨rec', y, hk', hs', hf', hc⟩ := h.leases k rec x hk hn hs hroom
  exact .trans hf' hc (h'.leases k rec' y hk' (by rwa [hc.1]) hs' (by rw [hc.2.1]; exact (h.room _).trans_lt hroom))

/-- An operation that changes no held record but those of client `n`. -/
theorem keepsLeases_of_record {e e' : Engine}
    (h : ∀ k rec, e.record k = some rec → rec.client ≠ n → rec.isHeld = true → e'.record k = some rec) :
    e.KeepsLeases n e' := fun k rec _ hk hn hs => lease_goes_on (h k rec hk hn (by rw [Record.isHeld, hs]; rfl)) hs

theorem spares_refl (e : Engine) : e.Spares n e :=
  (keepsLeases_of_record fun _ _ hk _ _ => hk).spares fun _ => le_rfl

theorem keepsLeases_setRun (e : Engine) (r : ResourceId) (x : Run) : e.KeepsLeases n (e.setRun r x) :=
  keepsLeases_of_record fun _ _ hk _ _ => hk

/-- A change of a run record that raises neither the fence counter nor the queue. -/
theorem spares_setRun (e : Engine) (r : ResourceId) (x : Run)
    (h : x.fence + x.queue.length ≤ (e.run r).fence + (e.run r).queue.length) : e.Spares n (e.setRun r x) := by
  refine (keepsLeases_setRun e r x).spares fun q => ?_
  rw [Engine.run_setRun]
  split
  · rename_i hq
    rwa [← hq]
  · exact le_rfl

theorem spares_setState (e : Engine) (r : ResourceId) (st : ResourceState) : e.Spares n (e.setState r st) :=
  spares_setRun _ _ _ le_rfl

theorem spares_depart (e : Engine) (r : ResourceId) (m : Mode) : e.Spares n (e.depart r m) := spares_setRun _ _ _ le_rfl

/-- A squeeze ends no lease (R94). -/
theorem squeeze_held {rec : Record} {h : Held} (hs : rec.standing = .held h) (lead c : Nat) :
    ∃ g, (rec.squeeze lead c).standing = .held g ∧ g.fence = h.fence := by
  simp only [Record.squeeze, hs]
  split
  · exact ⟨_, rfl, rfl⟩
  · exact ⟨h, hs, rfl⟩

theorem squeeze_sameClaim (lead c : Nat) (rec : Record) : rec.sameClaim (rec.squeeze lead c) :=
  (squeeze_persists lead c rec).claim

theorem keepsLeases_squeeze (e : Engine) (r : ResourceId) : e.KeepsLeases n (e.squeeze r) := by
  intro k rec h hk _ hs
  by_cases hr : rec.resource = r
  · obtain ⟨g, hg, hf⟩ := squeeze_held hs (e.defn r).lead ((e.profileOf r).ceiling (e.run r).band)
    exact ⟨_, g, by simp [Engine.squeeze, hk, hr], hg, hf, squeeze_sameClaim _ _ rec⟩
  · exact lease_goes_on (by simp [Engine.squeeze, hk, hr]) hs

theorem keepsLeases_bandRule (e : Engine) (r : ResourceId) : e.KeepsLeases n (e.bandRule r) := by
  unfold Engine.bandRule
  simp only
  split
  · exact (keepsLeases_setRun e r _).trans (keepsLeases_squeeze _ r)
  · exact keepsLeases_setRun e r _

theorem spares_bandRule (e : Engine) (r : ResourceId) : e.Spares n (e.bandRule r) :=
  (keepsLeases_bandRule e r).spares fun q => by rw [bandRule_fence, bandRule_queue]

theorem spares_leaveQueue (e : Engine) (r : ResourceId) (k : SlotId) : e.Spares n (e.leaveQueue r k) :=
  (spares_setRun e r _ (Nat.add_le_add_left (List.length_erase_le) _)).trans (spares_bandRule _ r)

theorem record_freeSlot_ne (e : Engine) {k j : SlotId} (h : k ≠ j) : (e.freeSlot k).record j = e.record j := by
  rw [Engine.record, slot_freeSlot, if_neg h]
  rfl

@[simp] theorem run_freeSlot (e : Engine) (k : SlotId) (r : ResourceId) : (e.freeSlot k).run r = e.run r := by
  unfold Engine.freeSlot
  split <;> rfl

theorem spares_freeSlot {e : Engine} {k : SlotId} (h : ∀ rec, e.record k = some rec → rec.client = n) :
    e.Spares n (e.freeSlot k) := by
  refine Engine.KeepsLeases.spares (keepsLeases_of_record fun j rec hj hn _ => ?_) fun r => by rw [run_freeSlot]
  have hkj : k ≠ j := fun heq => hn (h rec (by rw [heq, hj]))
  rw [record_freeSlot_ne e hkj, hj]

/-- An exhaustion ends leases only on a resource whose fence counter has no room (R33). -/
theorem spares_exhaust {e : Engine} {r : ResourceId} (hf : e.fenceFull r = true) : e.Spares n (e.exhaust r) := by
  have hfull : Config.fenceMax ≤ (e.run r).fence := by simpa [Engine.fenceFull] using hf
  rw [exhaust_eq]
  constructor
  · intro q
    change ((e.downed r true).run q).fence + ((e.downed r true).run q).queue.length ≤ _
    simp only [Engine.downed, Engine.run_setRun]
    split
    · rename_i hq
      rw [← hq]
      simp
    · exact le_rfl
  · intro k rec h hk _ hs hroom
    have hne : rec.resource ≠ r := by
      rintro rfl
      simp only [Engine.fenceRoom] at hroom
      omega
    have hk' : (e.downed r true).record k = some rec := by
      simp [Engine.downed, hk, hne]
    exact lease_goes_on hk' hs

theorem spares_grantHead {e : Engine} {r : ResourceId} {k : SlotId} {rec : Record} (h : e.head r = some (k, rec)) :
    e.Spares n (e.grantHead r k rec) := by
  obtain ⟨hhead, hk, hw⟩ := head_record h
  by_cases hf : e.fenceFull r = true
  · rw [Engine.grantHead, if_pos hf]
    exact spares_exhaust hf
  · have hlt : (e.run r).fence < Config.fenceMax := by simpa [Engine.fenceFull] using hf
    have hlen := granted_length (e := e) (rec := rec) ⟨hhead, hk, hw⟩ hlt
    have hleave := (spares_leaveQueue (n := n) e r k).leases
    rw [grantHead_eq]
    constructor
    · intro q
      by_cases hq : r = q
      · subst hq
        have hfence : ((e.granted r k rec).run r).fence = (e.run r).fence + 1 := by
          simp [Engine.granted, Nat.not_le.mpr hlt]
        omega
      · simp [Engine.granted, Nat.not_le.mpr hlt, Engine.run_setRun, hq]
    · intro j x y hj hn hs hroom
      have hkj : k ≠ j := by
        rintro rfl
        rw [hk, Option.some.injEq] at hj
        rw [← hj] at hs
        rw [Record.isWaiting, hs] at hw
        exact absurd hw nofun
      have hsame : (e.granted r k rec).record j = (e.leaveQueue r k).record j := by
        simp [Engine.granted, Nat.not_le.mpr hlt, Engine.record_setSlot, hkj, leaveQueue_eq]
      rw [Engine.LeaseGoesOn, hsame]
      exact hleave j x y hj hn hs hroom

theorem spares_admission (e : Engine) (r : ResourceId) : e.Spares n (e.admission r) :=
  admitPasses_induct (P := e.Spares n) (fun _ _ _ h => h.trans (spares_setState _ _ _))
    (fun _ _ _ hh h => h.trans (spares_grantHead hh)) _ (spares_refl e)

/-- Whose record stands in a slot, an operation that keeps records in their slots does not change. -/
theorem Engine.InPlace.client {e e' : Engine} (h : e.InPlace e') {k : SlotId} {rec : Record}
    (hk : e.record k = some rec)
    (x : Record) (hx : e'.record k = some x) : x.client = rec.client := by
  obtain ⟨y, hy, hp⟩ := h.follows.record hx
  rw [hk, Option.some.injEq] at hy
  rw [hp.claim.1, hy]

theorem spares_endRecord (e : Engine) (k : SlotId) : e.Spares n (e.endRecord n k) := by
  unfold Engine.endRecord
  split
  · rename_i rec hk
    split
    · rename_i hn
      subst hn
      split
      · exact (spares_depart e _ _).trans (spares_freeSlot ((inPlace_depart _ _ _).client hk))
      · split
        · exact (spares_leaveQueue e _ k).trans (spares_freeSlot ((inPlace_leaveQueue _ _ _).client hk))
        · exact spares_freeSlot ((Engine.InPlace.refl e).client hk)
    · exact spares_refl e
  · exact spares_refl e

theorem spares_foldl {β : Type} {f : Engine → β → Engine} (hf : ∀ (e : Engine) b, e.Spares n (f e b)) (l : List β)
    (e : Engine) : e.Spares n (l.foldl f e) :=
  foldl_invariant (P := e.Spares n) l (spares_refl e) fun a b _ h => h.trans (hf a b)

theorem spares_endSession (e : Engine) : e.Spares n (e.endSession n) :=
  (spares_foldl spares_endRecord _ e).trans (spares_foldl spares_admission _ _)

theorem spares_setSession (e : Engine) (m : Client) (x : Session) : e.Spares n (e.setSession m x) :=
  Engine.KeepsLeases.spares (e' := e.setSession m x) (keepsLeases_of_record fun _ _ hk _ _ => hk) fun _ => le_rfl

/-- A change of the record in a slot whose record is client `n`'s. -/
theorem spares_putRecord {e : Engine} {k : SlotId} {rec : Record} (hk : e.record k = some rec) (rec' : Record) :
    e.Spares rec.client (e.putRecord k rec') := by
  refine Engine.KeepsLeases.spares (keepsLeases_of_record fun j x hj hn _ => ?_) fun _ => le_rfl
  have hkj : k ≠ j := by
    rintro rfl
    rw [hk, Option.some.injEq] at hj
    exact hn (by rw [hj])
  rw [Engine.record_putRecord, if_neg hkj, hj]

/-- A record made in a FREE slot changes no lease. -/
theorem keepsLeases_create {e : Engine} {k : SlotId} (hk : e.record k = none) (rec : Record) :
    e.KeepsLeases n (e.create k rec) := by
  refine keepsLeases_of_record fun j x hj _ _ => ?_
  have hkj : k ≠ j := by
    rintro rfl
    rw [hk] at hj
    exact absurd hj nofun
  simp only [Engine.create, Engine.record_setSession, Engine.record_putRecord, if_neg hkj, hj]

/-- An immediate grant ends no other lease. -/
theorem keepsLeases_grantAtOnce {e : Engine} {k : SlotId} (hk : e.record k = none) (m : Client) (r : ResourceId)
    (a : AcquireArgs) : e.KeepsLeases n (e.grantAtOnce m r a k) :=
  (keepsLeases_setRun e r _).trans (keepsLeases_create (e := e.joinHolders r a.mode) hk _)

/-- A wait that begins ends no lease: the band rule squeezes, at most. -/
theorem keepsLeases_join {e : Engine} {k : SlotId} (hk : e.record k = none) (m : Client) (r : ResourceId)
    (a : AcquireArgs) : e.KeepsLeases n (e.join m r a k) := by
  have h := fun q => ((keepsLeases_create (n := n) hk (a.record m r (.waiting (patienceOf a.patience)))).trans
    (keepsLeases_setRun _ r q)).trans (keepsLeases_bandRule _ r)
  unfold Engine.join
  simp only
  split
  · exact (h _).trans (keepsLeases_setRun _ _ _)
  · exact h _

/-- What client `n`'s request does to the leases of the others. -/
theorem Engine.Yields.leases {e e' : Engine} {loading : Prop} (h : e.Yields loading (some n) e') (k : SlotId)
    (rec : Record) (x : Held) (hk : e.record k = some rec) (hn : rec.client ≠ n) (hs : rec.standing = .held x)
    (hroom : e.fenceRoom rec.resource) : e'.LeaseGoesOn k rec x := by
  have hspare : ∀ {e'}, e.Spares n e' → e'.LeaseGoesOn k rec x := fun h => h.leases k rec x hk hn hs hroom
  cases h with
  | unchanged => exact lease_goes_on hk hs
  | opens => exact hspare (spares_setSession e _ _)
  | reopens => exact hspare ((spares_endSession e).trans (spares_setSession _ _ _))
  | closes => exact hspare ((spares_endSession e).trans (spares_setSession _ _ _))
  | granted ho ha hr hfree hg hf => exact keepsLeases_grantAtOnce (firstFree_record hfree) _ _ _ k rec x hk hn hs
  | exhausted _ hf => exact hspare (spares_exhaust hf)
  | joined ho ha hr hfree hg => exact keepsLeases_join (firstFree_record hfree) _ _ _ k rec x hk hn hs
  | renewed hown hheld ht => exact hspare (spares_putRecord hown _)
  | released hown hheld =>
    exact hspare (((spares_depart e _ _).trans (spares_freeSlot ((inPlace_depart _ _ _).client hown))).trans
      (spares_admission _ _))
  | cancelled hown hwait =>
    exact hspare (((spares_leaveQueue e _ _).trans (spares_freeSlot ((inPlace_leaveQueue _ _ _).client hown))).trans
      (spares_admission _ _))
  | discarded hown hdead => exact hspare (spares_freeSlot ((Engine.InPlace.refl e).client hown))
  | acknowledged hown hack => exact hspare (spares_putRecord hown _)

end Spares

/-- Settles O59: a client's request ends leases of its own alone, and an exhaustion needs a counter without room. -/
theorem noClientEndsAnotherClientsLease : Obligations.NoClientEndsAnotherClientsLease :=
  fun _ _ _ _ h => (exec_client_yields h).leases

end Sys2Proof.Machine
end

section
/-! PROOF. The accounts of the clients: record counts, sessions and epochs, and what the end of a session leaves. -/

namespace Sys2Proof.Machine

/-! ## Counting -/

theorem countP_change_list {α : Type} (p q : α → Bool) {k : α} (h : ∀ j, j ≠ k → q j = p j) (l : List α)
    (hl : l.Nodup) :
    (k ∉ l → l.countP q = l.countP p) ∧ (k ∈ l → l.countP q + (p k).toNat = l.countP p + (q k).toNat) := by
  induction l with
  | nil => simp
  | cons a l ih =>
    obtain ⟨ha, hl⟩ := List.nodup_cons.mp hl
    obtain ⟨hout, hin⟩ := ih hl
    simp only [List.countP_cons]
    by_cases hk : a = k
    · subst hk
      refine ⟨fun hn => absurd List.mem_cons_self hn, fun _ => ?_⟩
      rw [hout ha]
      cases p a <;> cases q a <;> simp
    · rw [h a hk]
      refine ⟨fun hn => ?_, fun hm => ?_⟩
      · rw [hout fun hm => hn (List.mem_cons_of_mem a hm)]
      · have := hin ((List.mem_cons.mp hm).resolve_left (Ne.symm hk))
        omega

/-- A count over a table changes with the one cell that changes. -/
theorem countP_change {n : Nat} (p q : Fin n → Bool) (k : Fin n) (h : ∀ j, j ≠ k → q j = p j) :
    (List.finRange n).countP q + (p k).toNat = (List.finRange n).countP p + (q k).toNat :=
  (countP_change_list p q h _ (List.nodup_finRange n)).2 (List.mem_finRange k)

theorem countWhere_change {e e' : Engine} (p : Record → Bool) (k : SlotId)
    (h : ∀ j, j ≠ k → e'.record j = e.record j) :
    e'.countWhere p + ((e.record k).any p).toNat = e.countWhere p + ((e'.record k).any p).toNat :=
  countP_change (fun j => (e.record j).any p) (fun j => (e'.record j).any p) k fun j hj => by rw [h j hj]

theorem countWhere_congr {e e' : Engine} (p : Record → Bool)
    (h : ∀ k, (e'.record k).any p = (e.record k).any p) : e'.countWhere p = e.countWhere p := by
  unfold Engine.countWhere
  simp only [h]

theorem countWhere_eq_zero {e : Engine} {p : Record → Bool} (h : ∀ k rec, e.record k = some rec → p rec = false) :
    e.countWhere p = 0 := by
  rw [Engine.countWhere, List.countP_eq_zero]
  intro k _
  cases hk : e.record k with
  | none => simp
  | some rec => simp [h k rec hk]

/-- An operation that keeps records in their slots keeps every client's records. -/
theorem Engine.InPlace.owned {e e' : Engine} (h : e.InPlace e') (n : Client) :
    (e'.countWhere fun rec => decide (rec.client = n)) = e.countWhere fun rec => decide (rec.client = n) := by
  refine countWhere_congr _ fun k => ?_
  have hr := h.records k
  generalize e.record k = x, e'.record k = y at hr
  cases hr with
  | none => rfl
  | some hp => simp [hp.claim.1]

/-! ## Accounts (R117 to R119) -/

/-- The laws of the session records: each counts its client's records, none but an OPEN session has records, and
epochs lie in their range (R117, R118, R119). -/
structure Engine.Accounted (e : Engine) : Prop where
  count : e.countLaw
  owner : ∀ n k rec, (e.session n).state ≠ .opened → e.record k = some rec → rec.client ≠ n
  epoch : e.epochLaw

theorem accounted_iff (e : Engine) : e.Accounted ↔ e.countLaw ∧ e.sessionLaw ∧ e.epochLaw := by
  constructor
  · rintro ⟨hcount, howner, hepoch⟩
    refine ⟨hcount, fun n hn => ⟨?_, fun k => ?_⟩, hepoch⟩
    · rw [hcount n]
      exact countWhere_eq_zero fun k rec hk => by simpa using howner n k rec hn hk
    · cases hk : e.record k with
      | none => rfl
      | some rec => simpa using howner n k rec hn hk
  · rintro ⟨hcount, hsession, hepoch⟩
    refine ⟨hcount, fun n k rec hn hk => ?_, hepoch⟩
    have h := (hsession n hn).2 k
    rw [hk] at h
    simpa using h

theorem Engine.InPlace.accounted {e e' : Engine} (h : e.InPlace e') (ha : e.Accounted) : e'.Accounted := by
  have hs : ∀ n, e'.session n = e.session n := fun n => by rw [Engine.session, h.sessions]; rfl
  refine ⟨fun n => ?_, fun n k rec hn hk => ?_, fun n => ?_⟩
  · rw [hs, h.owned, ha.count n]
  · obtain ⟨x, hx, hp⟩ := h.follows.record hk
    rw [hp.claim.1]
    exact ha.owner n k x (by rwa [hs] at hn) hx
  · rw [hs]
    exact ha.epoch n

theorem accounted_freeSlot {e : Engine} (ha : e.Accounted) (k : SlotId) : (e.freeSlot k).Accounted := by
  cases hk : e.record k with
  | none => rwa [freeSlot_free hk]
  | some rec =>
    have hsession : ∀ n, (e.freeSlot k).session n =
        if rec.client = n then { e.session n with count := (e.session n).count - 1 } else e.session n := by
      intro n
      rw [freeSlot_eq hk, Engine.session_setSession]
      split
      · rename_i hn
        rw [hn]
      · rfl
    have hself : (e.freeSlot k).record k = none := by
      rw [Engine.record, slot_freeSlot, if_pos rfl, Slot.freed_record]
    refine ⟨fun n => ?_, fun n j x hn hj => ?_, fun n => ?_⟩
    · have hc := countWhere_change (e := e) (e' := e.freeSlot k) (fun x => decide (x.client = n)) k fun j hj =>
        record_freeSlot_ne e (Ne.symm hj)
      have h0 := ha.count n
      rw [hk, hself] at hc
      rw [hsession]
      by_cases hn : rec.client = n
      · simp [hn] at hc ⊢
        omega
      · simp [hn] at hc ⊢
        omega
    · obtain ⟨y, hy, hp⟩ := (follows_freeSlot e k).record hj
      rw [hp.claim.1]
      refine ha.owner n j y ?_ hy
      rw [hsession] at hn
      split at hn <;> exact hn
    · have h0 := ha.epoch n
      rw [hsession]
      split <;> exact h0

theorem accounted_create {e : Engine} (ha : e.Accounted) {k : SlotId} {rec : Record} (hk : e.record k = none)
    (ho : (e.session rec.client).state = .opened) : (e.create k rec).Accounted := by
  have hrecord : ∀ j, (e.create k rec).record j = if k = j then some rec else e.record j := fun j =>
    Engine.record_putRecord e k j rec
  have hsession : ∀ n, (e.create k rec).session n =
      if rec.client = n then { e.session n with count := (e.session n).count + 1 } else e.session n := by
    intro n
    rw [Engine.create, Engine.session_setSession]
    split
    · rename_i hn
      rw [hn]
    · rfl
  refine ⟨fun n => ?_, fun n j x hn hj => ?_, fun n => ?_⟩
  · have hc := countWhere_change (e := e) (e' := e.create k rec) (fun x => decide (x.client = n)) k fun j hj => by
      rw [hrecord, if_neg (Ne.symm hj)]
    have h0 := ha.count n
    rw [hk, hrecord, if_pos rfl] at hc
    rw [hsession]
    by_cases hn : rec.client = n
    · simp [hn] at hc ⊢
      omega
    · simp [hn] at hc ⊢
      omega
  · have hstate : (e.session n).state ≠ .opened := by
      rw [hsession] at hn
      split at hn <;> exact hn
    rw [hrecord] at hj
    split at hj
    · cases hj
      rintro rfl
      exact hstate ho
    · exact ha.owner n j x hstate hj
  · have h0 := ha.epoch n
    rw [hsession]
    split <;> exact h0

/-- A change of client `n`'s session that keeps its count, and closes it only where the client has no record. -/
theorem accounted_setSession {e : Engine} (ha : e.Accounted) {n : Client} {x : Session}
    (hc : x.count = (e.session n).count) (ho : x.state ≠ .opened → ∀ k rec, e.record k = some rec → rec.client ≠ n)
    (he : x.epoch ≤ 255 ∧ (x.state = .opened → 1 ≤ x.epoch)) : (e.setSession n x).Accounted := by
  refine ⟨fun m => ?_, fun m k rec hm hk => ?_, fun m => ?_⟩
  · change ((e.setSession n x).session m).count = e.countWhere fun rec => decide (rec.client = m)
    rw [Engine.session_setSession, ← ha.count m]
    split
    · rename_i hnm
      rw [hc, hnm]
    · rfl
  · rw [Engine.session_setSession] at hm
    split at hm
    · rename_i hnm
      rw [← hnm]
      exact ho hm k rec hk
    · exact ha.owner m k rec hm hk
  · rw [Engine.session_setSession]
    split
    · exact he
    · exact ha.epoch m

theorem nextEpoch_range {x : Nat} (h : x ≤ 255) : 1 ≤ nextEpoch x ∧ nextEpoch x ≤ 255 := by
  unfold nextEpoch
  split <;> omega

theorem accounted_openSession {e : Engine} (ha : e.Accounted) (n : Client) : (e.openSession n).Accounted := by
  have h := nextEpoch_range (ha.epoch n).1
  exact accounted_setSession ha rfl (fun hn => absurd rfl hn) ⟨h.2, fun _ => h.1⟩

/-- A session that is not OPEN is set on a client without records. -/
theorem accounted_setSessionState {e : Engine} (ha : e.Accounted) {n : Client} {st : SessionState} (hst : st ≠ .opened)
    (h : ∀ k rec, e.record k = some rec → rec.client ≠ n) : (e.setSessionState n st).Accounted :=
  accounted_setSession ha rfl (fun _ => h) ⟨(ha.epoch n).1, fun ho => absurd ho hst⟩

theorem accounted_foldl {β : Type} {f : Engine → β → Engine} (hf : ∀ (e : Engine) b, e.Accounted → (f e b).Accounted)
    (l : List β) {e : Engine} (ha : e.Accounted) : (l.foldl f e).Accounted :=
  foldl_invariant l ha fun a b _ h => hf a b h

/-! ## The end of a session (R122, R124) -/

theorem accounted_endRecord (n : Client) (e : Engine) (k : SlotId) (ha : e.Accounted) :
    (e.endRecord n k).Accounted := by
  unfold Engine.endRecord
  split
  · split
    · split
      · exact accounted_freeSlot ((inPlace_depart _ _ _).accounted ha) k
      · split
        · exact accounted_freeSlot ((inPlace_leaveQueue _ _ _).accounted ha) k
        · exact accounted_freeSlot ha k
    · exact ha
  · exact ha

theorem accounted_barRecord (n : Client) (e : Engine) (k : SlotId) (ha : e.Accounted) :
    (e.barRecord n k).Accounted := by
  unfold Engine.barRecord
  split
  · split
    · split
      · exact accounted_freeSlot ((inPlace_revoke _ _ _).accounted ha) k
      · split
        · exact accounted_freeSlot ((inPlace_leaveQueue _ _ _).accounted ha) k
        · exact accounted_freeSlot ha k
    · exact ha
  · exact ha

theorem accounted_endSession {e : Engine} (ha : e.Accounted) (n : Client) : (e.endSession n).Accounted :=
  (inPlace_admissionWhere _ _).accounted (accounted_foldl (accounted_endRecord n) _ ha)

theorem accounted_barSession {e : Engine} (ha : e.Accounted) (n : Client) : (e.barSession n).Accounted :=
  (inPlace_admissionWhere _ _).accounted (accounted_foldl (accounted_barRecord n) _ ha)

theorem record_freeSlot_self (e : Engine) (k : SlotId) : (e.freeSlot k).record k = none := by
  rw [Engine.record, slot_freeSlot, if_pos rfl, Slot.freed_record]

/-- The slot that `endRecord` has visited holds no record of the client. -/
theorem endRecord_owner {n : Client} {e : Engine} {k : SlotId} {rec : Record}
    (h : (e.endRecord n k).record k = some rec) : rec.client ≠ n := by
  unfold Engine.endRecord at h
  split at h
  · rename_i x hx
    split at h
    · split at h
      · rw [record_freeSlot_self] at h
        exact absurd h nofun
      · split at h <;> (rw [record_freeSlot_self] at h; exact absurd h nofun)
    · rename_i hn
      rw [hx, Option.some.injEq] at h
      rwa [← h]
  · rename_i hx
    rw [hx] at h
    exact absurd h nofun

theorem barRecord_owner {n : Client} {e : Engine} {k : SlotId} {rec : Record}
    (h : (e.barRecord n k).record k = some rec) : rec.client ≠ n := by
  unfold Engine.barRecord at h
  split at h
  · rename_i x hx
    split at h
    · split at h
      · rw [record_freeSlot_self] at h
        exact absurd h nofun
      · split at h <;> (rw [record_freeSlot_self] at h; exact absurd h nofun)
    · rename_i hn
      rw [hx, Option.some.injEq] at h
      rwa [← h]
  · rename_i hx
    rw [hx] at h
    exact absurd h nofun

/-- What one visit makes true of a slot, and every visit keeps, holds of every slot visited. -/
theorem foldl_visits {β : Type} {f : Engine → β → Engine} {P : Engine → β → Prop} (hself : ∀ e b, P (f e b) b)
    (hkeep : ∀ e a b, P e b → P (f e a) b) (l : List β) (e : Engine) (b : β) (hb : b ∈ l) : P (l.foldl f e) b := by
  induction l generalizing e with
  | nil => exact absurd hb List.not_mem_nil
  | cons a l ih =>
    rcases List.mem_cons.mp hb with rfl | hb
    · exact foldl_invariant (P := fun e => P e b) l (hself e b) fun e a _ h => hkeep e a b h
    · exact ih (f e a) hb

/-- Slot `k` holds no record of client `n`. -/
def Engine.notOwned (n : Client) (e : Engine) (k : SlotId) : Prop := ∀ rec, e.record k = some rec → rec.client ≠ n

theorem Engine.Follows.notOwned {n : Client} {e e' : Engine} (h : e.Follows e') {k : SlotId} (hk : e.notOwned n k) :
    e'.notOwned n k := by
  intro rec hrec
  obtain ⟨x, hx, hp⟩ := h.record hrec
  rw [hp.claim.1]
  exact hk x hx

/-- After the end of its session a client owns no record (R122). -/
theorem endSession_owner (e : Engine) (n : Client) (k : SlotId) : (e.endSession n).notOwned n k :=
  (inPlace_admissionWhere _ _).follows.notOwned
    (foldl_visits (P := Engine.notOwned n) (fun _ _ _ h => endRecord_owner h)
      (fun _ _ _ h => (follows_endRecord n _ _).notOwned h) _ e k (List.mem_finRange k))

theorem barSession_owner (e : Engine) (n : Client) (k : SlotId) : (e.barSession n).notOwned n k :=
  (inPlace_admissionWhere _ _).follows.notOwned
    (foldl_visits (P := Engine.notOwned n) (fun _ _ _ h => barRecord_owner h)
      (fun _ _ _ h => (follows_barRecord n _ _).notOwned h) _ e k (List.mem_finRange k))

/-! ## Every happening keeps the accounts -/

/-- An engine without records, its counts 0 and its sessions CLOSED, has its accounts in order. -/
theorem accounted_of_empty {e : Engine} (h : e.empty)
    (hs : ∀ n, (e.session n).state = .closed ∧ (e.session n).count = 0 ∧ (e.session n).epoch ≤ 255) : e.Accounted := by
  refine ⟨fun n => ?_, fun n k rec _ hk => ?_, fun n => ⟨(hs n).2.2, fun ho => ?_⟩⟩
  · rw [(hs n).2.1, countWhere_of_empty h]
  · rw [h k] at hk
    exact absurd hk nofun
  · rw [(hs n).1] at ho
    exact absurd ho nofun

theorem empty_of_freed {e e' : Engine} (h : ∀ k, e'.slot k = (e.slot k).freed) : e'.empty := fun k => by
  rw [Engine.record, h, Slot.freed_record]

theorem session_emptied (e : Engine) (n : Client) :
    e.emptied.session n = { e.session n with state := .closed, count := 0 } := by
  simp [Engine.emptied, Engine.mapRuns, Engine.closeAll, Engine.freeAll, Engine.session]

theorem session_pinReset (e : Engine) (n : Client) :
    e.pinReset.session n = { e.session n with state := .closed, count := 0 } := by
  simp [Engine.pinReset, Engine.mapRuns, Engine.closeAll, Engine.freeAll, Engine.session]

theorem accounted_emptied {e : Engine} (ha : e.epochLaw) : e.emptied.Accounted :=
  accounted_of_empty (empty_of_freed (slot_emptied e)) fun n => by
    rw [session_emptied]
    exact ⟨rfl, rfl, (ha n).1⟩

theorem accounted_pinReset {e : Engine} (ha : e.epochLaw) : e.pinReset.Accounted :=
  accounted_of_empty (empty_of_freed (slot_pinReset e)) fun n => by
    rw [session_pinReset]
    exact ⟨rfl, rfl, (ha n).1⟩

/-- Quotas are no part of the accounts. -/
theorem accounted_of_quota {e e' : Engine} (ha : e.Accounted) (hk : e'.slots = e.slots)
    (hs : ∀ n, ∃ q, e'.session n = { e.session n with quota := q }) : e'.Accounted := by
  have hrecord : ∀ k, e'.record k = e.record k := fun k => by rw [Engine.record, Engine.slot, hk]; rfl
  refine ⟨fun n => ?_, fun n k rec hn hrec => ?_, fun n => ?_⟩
  all_goals obtain ⟨q, hq⟩ := hs n
  · rw [hq, countWhere_congr (e := e) (e' := e') _ fun k => by rw [hrecord k]]
    exact ha.count n
  · rw [hq] at hn
    exact ha.owner n k rec hn (by rw [← hrecord, hrec])
  · rw [hq]
    exact ha.epoch n

theorem accounted_join {e : Engine} (ha : e.Accounted) {n : Client} {r : ResourceId} {a : AcquireArgs} {k : SlotId}
    (hk : e.record k = none) (ho : (e.session n).state = .opened) : (e.join n r a k).Accounted := by
  have h := fun q => (inPlace_bandRule _ r).accounted ((inPlace_setRun _ r q).accounted
    (accounted_create ha (rec := a.record n r (.waiting (patienceOf a.patience))) hk ho))
  unfold Engine.join
  simp only
  split
  · exact (inPlace_setState _ _ _).accounted (h _)
  · exact h _

/-- Every happening leaves the accounts in order. -/
theorem Engine.Yields.accounted {e e' : Engine} {loading : Prop} {who : Option Client}
    (h : e.Yields loading who e') (ha : e.Accounted) : e'.Accounted := by
  cases h with
  | unchanged => exact ha
  | faults f => exact (Engine.InPlace.of_eq (e := e) (e' := { e with faults := f }) rfl rfl).accounted ha
  | opens n => exact accounted_openSession ha n
  | reopens n => exact accounted_openSession (accounted_endSession ha n) n
  | closes n => exact accounted_setSessionState (accounted_endSession ha n) nofun (endSession_owner e n)
  | granted ho ha' hr hk hg hf =>
    exact accounted_create ((inPlace_joinHolders e _ _).accounted ha) (firstFree_record hk) ho
  | exhausted _ hf => exact (inPlace_exhaust e _).accounted ha
  | joined ho ha' hr hk hg => exact accounted_join ha (firstFree_record hk) ho
  | renewed hk hs ht => exact (inPlace_putRecord hk (renewed_persists e hs _)).accounted ha
  | released hk hs =>
    exact (inPlace_admission _ _).accounted (accounted_freeSlot ((inPlace_depart _ _ _).accounted ha) _)
  | cancelled hk hs =>
    exact (inPlace_admission _ _).accounted (accounted_freeSlot ((inPlace_leaveQueue _ _ _).accounted ha) _)
  | discarded hk hs => exact accounted_freeSlot ha _
  | acknowledged hk hs => exact (inPlace_putRecord hk (unseen_persists _ _)).accounted ha
  | forced hk hs => exact ((inPlace_revoke _ _ _).trans (inPlace_admission _ _)).accounted ha
  | dropped hk hs => exact ((inPlace_lapse _ _ _).trans (inPlace_admission _ _)).accounted ha
  | defined ho hd => exact (Engine.InPlace.of_eq (e := e) (e' := e.setDefn _ _) rfl rfl).accounted ha
  | profiled hx => exact (inPlace_profiled e _ _).accounted ha
  | quota n q => exact accounted_setSession ha rfl (fun hn k rec => ha.owner n k rec hn) (ha.epoch n)
  | bars n => exact accounted_setSessionState (accounted_barSession ha n) nofun (barSession_owner e n)
  | unbars h => exact accounted_setSessionState ha nofun fun k rec => ha.owner _ k rec (by rw [h]; nofun)
  | lifted h => exact ((inPlace_setState _ _ _).trans (inPlace_admission _ _)).accounted ha
  | takenDown r => exact (inPlace_takeDown e r).accounted ha
  | online ho hd hs => exact ((inPlace_setRun _ _ _).trans (inPlace_admission _ _)).accounted ha
  | emptied f => exact accounted_emptied (e := { e with faults := f }) ha.epoch
  | renewedAll n => exact (inPlace_renewAll e n).accounted ha
  | ticked => exact (inPlace_tick e).accounted ha
  | pinReset => exact accounted_pinReset ha.epoch
  | loaded h image f => exact accounted_of_quota ha rfl fun n => ⟨_, Table.get_tab _ n⟩

/-! ## CLOSE (R122, R123) -/

/-- Of the sessions, only the record count of client `n` has changed. -/
def Engine.ChangesCountOf (n : Client) (e e' : Engine) : Prop :=
  (∀ m, m ≠ n → e'.session m = e.session m) ∧ ∃ c, e'.session n = { e.session n with count := c }

theorem Engine.ChangesCountOf.trans {n : Client} {a b c : Engine} (h : a.ChangesCountOf n b)
    (h' : b.ChangesCountOf n c) :
    a.ChangesCountOf n c := by
  obtain ⟨ho, x, hx⟩ := h
  obtain ⟨ho', y, hy⟩ := h'
  exact ⟨fun m hm => (ho' m hm).trans (ho m hm), y, by rw [hy, hx]⟩

theorem Engine.InPlace.changesCountOf {e e' : Engine} (h : e.InPlace e') (n : Client) : e.ChangesCountOf n e' := by
  have hs : ∀ n, e'.session n = e.session n := fun n => by rw [Engine.session, h.sessions]; rfl
  exact ⟨fun m _ => hs m, _, hs n⟩

theorem changesCountOf_freeSlot {n : Client} {e : Engine} {k : SlotId}
    (h : ∀ rec, e.record k = some rec → rec.client = n) : e.ChangesCountOf n (e.freeSlot k) := by
  cases hk : e.record k with
  | none =>
    rw [freeSlot_free hk]
    exact (Engine.InPlace.refl e).changesCountOf n
  | some rec =>
    obtain rfl := h rec hk
    rw [freeSlot_eq hk]
    refine ⟨fun m hm => ?_, _, Engine.session_setSession_self _ _ _⟩
    rw [Engine.session_setSession, if_neg (Ne.symm hm)]
    rfl

theorem changesCountOf_endRecord (n : Client) (e : Engine) (k : SlotId) : e.ChangesCountOf n (e.endRecord n k) := by
  unfold Engine.endRecord
  split
  · rename_i rec hk
    split
    · rename_i hn
      subst hn
      split
      · have hd := inPlace_depart e rec.resource rec.mode
        exact (hd.changesCountOf _).trans (changesCountOf_freeSlot (hd.client hk))
      · split
        · have hl := inPlace_leaveQueue e rec.resource k
          exact (hl.changesCountOf _).trans (changesCountOf_freeSlot (hl.client hk))
        · exact changesCountOf_freeSlot ((Engine.InPlace.refl e).client hk)
    · exact (Engine.InPlace.refl e).changesCountOf n
  · exact (Engine.InPlace.refl e).changesCountOf n

theorem changesCountOf_endSession (e : Engine) (n : Client) : e.ChangesCountOf n (e.endSession n) :=
  (foldl_invariant (P := e.ChangesCountOf n) _ ((Engine.InPlace.refl e).changesCountOf n)
    fun _ _ _ h => h.trans (changesCountOf_endRecord n _ _)).trans ((inPlace_admissionWhere _ _).changesCountOf n)

/-- No resource has gone into QUARANTINE, and no quarantine has changed. -/
def Engine.BeginsNoRest (e e' : Engine) : Prop :=
  ∀ r w, (e'.run r).state = .quarantine w → (e.run r).state = .quarantine w

theorem Engine.BeginsNoRest.trans {a b c : Engine} (h : a.BeginsNoRest b) (h' : b.BeginsNoRest c) : a.BeginsNoRest c :=
  fun r w hw => h r w (h' r w hw)

theorem beginsNoRest_setRun (e : Engine) (r : ResourceId) (x : Run)
    (h : ∀ w, x.state = .quarantine w → (e.run r).state = .quarantine w) : e.BeginsNoRest (e.setRun r x) := by
  intro q w hw
  rw [Engine.run_setRun] at hw
  split at hw
  · rename_i hq
    rw [← hq]
    exact h w hw
  · exact hw

theorem beginsNoRest_setState (e : Engine) (r : ResourceId) {st : ResourceState}
    (h : st = .free ∨ st = .shared ∨ st = .draining) : e.BeginsNoRest (e.setState r st) :=
  beginsNoRest_setRun e r _ fun w hw => by rcases h with rfl | rfl | rfl <;> exact absurd hw nofun

theorem departedState_quarantine {m : Mode} {st : ResourceState} {holders w : Nat}
    (h : departedState m st holders = .quarantine w) : st = .quarantine w := by
  unfold departedState at h
  split at h
  · exact absurd h nofun
  · split at h <;> exact absurd h nofun
  · exact h

theorem beginsNoRest_depart (e : Engine) (r : ResourceId) (m : Mode) : e.BeginsNoRest (e.depart r m) :=
  beginsNoRest_setRun e r _ fun _ => departedState_quarantine

/-- The band rule changes no resource's state. -/
theorem bandRule_state (e : Engine) (r q : ResourceId) : ((e.bandRule r).run q).state = (e.run q).state := by
  simp only [Engine.bandRule]
  split <;> by_cases h : r = q <;> simp [Engine.squeeze, Engine.setBand, Engine.run_setRun, h]

theorem beginsNoRest_bandRule (e : Engine) (r : ResourceId) : e.BeginsNoRest (e.bandRule r) :=
  fun q w hw => by rwa [bandRule_state] at hw

theorem beginsNoRest_leaveQueue (e : Engine) (r : ResourceId) (k : SlotId) : e.BeginsNoRest (e.leaveQueue r k) :=
  .trans (b := e.setQueue r ((e.run r).queue.erase k)) (beginsNoRest_setRun e r _ fun _ h => h)
    (beginsNoRest_bandRule _ r)

theorem beginsNoRest_freeSlot (e : Engine) (k : SlotId) : e.BeginsNoRest (e.freeSlot k) :=
  fun r w hw => by rwa [run_freeSlot] at hw

theorem beginsNoRest_exhaust (e : Engine) (r : ResourceId) : e.BeginsNoRest (e.exhaust r) := by
  rw [exhaust_eq]
  intro q w hw
  change ((e.downed r true).run q).state = _ at hw
  simp only [Engine.downed, Engine.run_setRun] at hw
  split at hw
  · exact absurd hw nofun
  · exact hw

theorem beginsNoRest_grantHead (e : Engine) (r : ResourceId) (k : SlotId) (rec : Record) :
    e.BeginsNoRest (e.grantHead r k rec) := by
  unfold Engine.grantHead
  split
  · exact beginsNoRest_exhaust e r
  · refine (beginsNoRest_leaveQueue e r k).trans (beginsNoRest_setRun (e.leaveQueue r k) r _ fun w hw => ?_)
    cases hm : rec.mode <;> rw [hm] at hw <;> exact absurd hw nofun

theorem beginsNoRest_refl (e : Engine) : e.BeginsNoRest e := fun _ _ h => h

theorem beginsNoRest_admission (e : Engine) (r : ResourceId) : e.BeginsNoRest (e.admission r) :=
  admitPasses_induct (P := e.BeginsNoRest) (fun _ _ hst h => h.trans (beginsNoRest_setState _ _ hst))
    (fun _ _ _ _ h => h.trans (beginsNoRest_grantHead _ _ _ _)) _ (beginsNoRest_refl e)

theorem beginsNoRest_endRecord (n : Client) (e : Engine) (k : SlotId) : e.BeginsNoRest (e.endRecord n k) := by
  unfold Engine.endRecord
  split
  · split
    · split
      · exact (beginsNoRest_depart e _ _).trans (beginsNoRest_freeSlot _ k)
      · split
        · exact (beginsNoRest_leaveQueue e _ k).trans (beginsNoRest_freeSlot _ k)
        · exact beginsNoRest_freeSlot e k
    · exact beginsNoRest_refl e
  · exact beginsNoRest_refl e

theorem beginsNoRest_endSession (e : Engine) (n : Client) : e.BeginsNoRest (e.endSession n) :=
  (foldl_invariant (P := e.BeginsNoRest) _ (beginsNoRest_refl e)
    fun _ _ _ h => h.trans (beginsNoRest_endRecord n _ _)).trans
    (foldl_invariant (P := (Engine.BeginsNoRest _)) _ (beginsNoRest_refl _)
      fun _ _ _ h => h.trans (beginsNoRest_admission _ _))

/-- A record whose slot holds no record of its client any more was freed. -/
theorem generation_of_ended {e e' : Engine} (h : e.Follows e') {k : SlotId} {rec : Record} (hk : e.record k = some rec)
    (hn : e'.notOwned rec.client k) : (e'.slot k).generation = ((e.slot k).generation + 1) % 1024 := by
  rcases h k with ⟨-, hr⟩ | hf
  · rw [show (e.slot k).record = some rec from hk] at hr
    generalize hx : (e'.slot k).record = x at hr
    cases hr with
    | some hp => exact absurd hp.claim.1 (hn _ hx)
  · rw [hf, Slot.freed_eq, show (e.slot k).record = some rec from hk]
    rfl

/-- A client without records has record count 0. -/
theorem count_of_notOwned {e : Engine} (ha : e.Accounted) {n : Client} (h : ∀ k, e.notOwned n k) :
    (e.session n).count = 0 := by
  rw [ha.count n]
  exact countWhere_eq_zero fun k rec hk => by simpa using h k rec hk

/-- Settles O14: the model's fold is R122's, and what it leaves follows from the accounts and from what becomes of each
record. -/
theorem closeFreesEveryRecordOfTheClient : Obligations.CloseFreesEveryRecordOfTheClient := by
  intro n q s hkind h
  refine ⟨?_, fun hlaw => ?_⟩
  · simp only [exec, execCloseSession, ← hkind]
    rw [takeClient_admitted h, ← endSession_eq]
    rfl
  · rw [← endSession_eq]
    obtain ⟨⟨hcount, hsession, hepoch, -⟩, -⟩ := hlaw
    have ha := accounted_endSession ((accounted_iff _).mpr ⟨hcount, hsession, hepoch⟩) n
    obtain ⟨hothers, c, hc⟩ := changesCountOf_endSession s.engine n
    have howner := endSession_owner s.engine n
    have hzero := count_of_notOwned ha howner
    refine ⟨?_, fun m hm => ?_, fun k => ?_, fun k rec hk hn => ?_, beginsNoRest_endSession s.engine n⟩
    · rw [hc] at hzero
      rw [Engine.session_setSession_self, hc, show c = 0 from hzero]
    · rw [Engine.session_setSession, if_neg (Ne.symm hm), hothers m hm]
    · rw [Engine.record_setSession]
      cases hk : (s.engine.endSession n).record k with
      | none => rfl
      | some rec => simpa using howner k rec hk
    · subst hn
      rw [Engine.slot_setSession]
      exact generation_of_ended (follows_endSession s.engine _) hk (howner k)

end Sys2Proof.Machine
end

section
/-! PROOF. The laws of the lease engine record by record and resource by resource: what fits one record, what fits one
resource with the claims on it, and that `Engine.lawful` says just this of every record and every resource. -/

namespace Sys2Proof.Machine

/-! ## Claims on a resource -/

/-- What each slot claims of one resource: whether a live record in it is held, and its mode. -/
abbrev Claims := SlotId → Option (Bool × Mode)

/-- What a record claims of resource `r`, if it is live. -/
def Record.claimOn (r : ResourceId) (rec : Record) : Option (Bool × Mode) :=
  if rec.resource = r ∧ rec.isLive = true then some (rec.isHeld, rec.mode) else none

/-- What the records claim of resource `r`. -/
def Engine.claimsOn (e : Engine) (r : ResourceId) : Claims := fun k => (e.record k).bind (Record.claimOn r)

/-- How many slots hold the resource. -/
def Claims.holders (v : Claims) : Nat := (List.finRange 64).countP fun k => (v k).any Prod.fst

/-- Every holder's mode is `m`. -/
def Claims.HeldAs (v : Claims) (m : Mode) : Prop := ∀ k m', v k = some (true, m') → m' = m

theorem isLive_of_isHeld {rec : Record} (h : rec.isHeld = true) : rec.isLive = true := by
  rw [Record.isLive, Standing.isLive, show rec.standing.isHeld = true from h, Bool.or_true]

theorem isLive_of_isWaiting {rec : Record} (h : rec.isWaiting = true) : rec.isLive = true := by
  rw [Record.isLive, Standing.isLive, show rec.standing.isWaiting = true from h, Bool.true_or]

theorem isHeld_of_standing {rec : Record} {h : Held} (hs : rec.standing = .held h) : rec.isHeld = true := by
  rw [Record.isHeld, hs]
  rfl

theorem isWaiting_of_standing {rec : Record} {p : Patience} (hs : rec.standing = .waiting p) :
    rec.isWaiting = true := by
  rw [Record.isWaiting, hs]
  rfl

theorem standing_of_isHeld {rec : Record} (h : rec.isHeld = true) : ∃ x, rec.standing = .held x := by
  unfold Record.isHeld Standing.isHeld at h
  split at h
  · exact ⟨_, ‹_›⟩
  · exact absurd h nofun

theorem standing_of_isWaiting {rec : Record} (h : rec.isWaiting = true) : ∃ p, rec.standing = .waiting p := by
  unfold Record.isWaiting Standing.isWaiting at h
  split at h
  · exact ⟨_, ‹_›⟩
  · exact absurd h nofun

/-- A live record is held or WAITING (R8). -/
theorem isWaiting_of_live {rec : Record} (hl : rec.isLive = true) (hh : rec.isHeld = false) : rec.isWaiting = true := by
  rw [Record.isLive, Standing.isLive, show rec.standing.isHeld = false from hh, Bool.or_false] at hl
  exact hl

theorem claimsOn_some {e : Engine} {r : ResourceId} {k : SlotId} {c : Bool × Mode} :
    e.claimsOn r k = some c ↔
      ∃ rec, e.record k = some rec ∧ rec.resource = r ∧ rec.isLive = true ∧ c = (rec.isHeld, rec.mode) := by
  unfold Engine.claimsOn Record.claimOn
  cases e.record k with
  | none => simp
  | some rec =>
    by_cases h : rec.resource = r ∧ rec.isLive = true
    · simp [h, eq_comm (a := c)]
    · simpa [h] using fun hr hl => absurd ⟨hr, hl⟩ h

theorem claimsOn_held {e : Engine} {r : ResourceId} {k : SlotId} {m : Mode} :
    e.claimsOn r k = some (true, m) ↔
      ∃ rec, e.record k = some rec ∧ rec.resource = r ∧ rec.isHeld = true ∧ rec.mode = m := by
  rw [claimsOn_some]
  constructor
  · rintro ⟨rec, hk, hr, -, hc⟩
    rw [Prod.mk.injEq] at hc
    exact ⟨rec, hk, hr, hc.1.symm, hc.2.symm⟩
  · rintro ⟨rec, hk, hr, hh, hm⟩
    exact ⟨rec, hk, hr, isLive_of_isHeld hh, by rw [hh, hm]⟩

theorem claimsOn_waiting {e : Engine} {r : ResourceId} {k : SlotId} {m : Mode} :
    e.claimsOn r k = some (false, m) ↔
      ∃ rec, e.record k = some rec ∧ rec.resource = r ∧ rec.isWaiting = true ∧ rec.mode = m := by
  rw [claimsOn_some]
  constructor
  · rintro ⟨rec, hk, hr, hl, hc⟩
    rw [Prod.mk.injEq] at hc
    exact ⟨rec, hk, hr, isWaiting_of_live hl hc.1.symm, hc.2.symm⟩
  · rintro ⟨rec, hk, hr, hw, hm⟩
    exact ⟨rec, hk, hr, isLive_of_isWaiting hw, by rw [not_isHeld_of_isWaiting hw, hm]⟩

/-- The holder count of R28 counts the claims of holders. -/
theorem heldOn_eq (e : Engine) (r : ResourceId) : e.heldOn r = (e.claimsOn r).holders := by
  refine List.countP_congr fun k _ => ?_
  unfold Engine.claimsOn Record.claimOn
  cases e.record k with
  | none => simp
  | some rec =>
    by_cases hr : rec.resource = r
    · cases hh : rec.isHeld with
      | true => simp [hr, hh, isLive_of_isHeld hh]
      | false => by_cases hl : rec.isLive = true <;> simp [hr, hh, hl]
    · simp [hr]

theorem waits_iff (e : Engine) (r : ResourceId) (k : SlotId) :
    ((e.record k).any fun rec => decide (rec.resource = r) && rec.isWaiting) = true ↔
      ∃ m, e.claimsOn r k = some (false, m) := by
  simp only [claimsOn_waiting]
  cases e.record k with
  | none => simp
  | some rec => simp

theorem holdersAre_iff (e : Engine) (r : ResourceId) (m : Mode) : e.holdersAre r m ↔ (e.claimsOn r).HeldAs m := by
  simp only [Engine.holdersAre, Claims.HeldAs, claimsOn_held]
  refine forall_congr' fun k => ?_
  cases e.record k with
  | none => simp
  | some rec => by_cases hr : rec.resource = r <;> cases hh : rec.isHeld <;> simp [hr, hh]

/-! ## One resource (R27 to R29, R44, R89) -/

/-- The row of R29's table that the resource's state names, but for what admission sees to. -/
def Run.Stands (d : Definition) (v : Claims) (x : Run) : Prop :=
  match x.state with
  | .offline => x.holders = 0 ∧ x.queue = []
  | .free => x.holders = 0
  | .exclusive => x.holders = 1 ∧ v.HeldAs .exclusive
  | .shared => 1 ≤ x.holders ∧ x.holders ≤ d.capacity ∧ v.HeldAs .shared
  | .draining => x.holders ≤ d.capacity ∧ v.HeldAs .shared
  | .quarantine q => x.holders = 0 ∧ 1 ≤ q ∧ q ≤ 255

/-- What admission sees to: no waiter is left that could be granted (R29, R57). -/
def Run.Settled (d : Definition) (v : Claims) (x : Run) : Prop :=
  match x.state with
  | .free => x.queue = []
  | .shared => x.queue = [] ∨ (x.queue.head?.bind v = some (false, .shared) ∧ x.holders = d.capacity)
  | .draining => 1 ≤ x.holders ∧ x.queue.head?.bind v = some (false, .exclusive)
  | _ => True

/-- A run record fits its definition and the claims on its resource, but for what admission and the band rule see to. -/
structure Run.Fits (d : Definition) (v : Claims) (x : Run) : Prop where
  holders : x.holders = v.holders
  nodup : x.queue.Nodup
  waits : ∀ k, k ∈ x.queue ↔ ∃ m, v k = some (false, m)
  depth : x.queue.length ≤ d.queueLimit
  stands : x.Stands d v
  online : d.defined = false ∨ x.spent = true → x.state = .offline
  fence : x.fence ≤ Config.fenceMax

/-- The band law of R89 under profile `p`. -/
def Run.Banded (p : Profile) (x : Run) : Prop :=
  x.band ≤ 3 ∧
    if x.state = .offline then x.band = 0
    else
      (1 ≤ x.band → p.threshold x.band ≤ x.queue.length) ∧
      (x.band ≤ 2 → x.queue.length < p.threshold (x.band + 1) + p.h)

theorem bandLaw_iff (e : Engine) : e.bandLaw ↔ ∀ r, (e.run r).Banded (e.profileOf r) := Iff.rfl

/-- The head of a queue of its resource's waiters, as a claim. -/
theorem headMode_iff {e : Engine} {r : ResourceId}
    (h : ∀ k, k ∈ (e.run r).queue ↔ ∃ m, e.claimsOn r k = some (false, m)) (m : Mode) :
    e.headMode r = some m ↔ (e.run r).queue.head?.bind (e.claimsOn r) = some (false, m) := by
  unfold Engine.headMode
  cases hq : (e.run r).queue with
  | nil => simp
  | cons k q =>
    obtain ⟨m', hm'⟩ := (h k).mp (by rw [hq]; exact List.mem_cons_self)
    obtain ⟨rec, hk, -, -, hmode⟩ := claimsOn_waiting.mp hm'
    simp [hk, hm', hmode]

theorem standsAs_iff {e : Engine} {r : ResourceId}
    (h : ∀ k, k ∈ (e.run r).queue ↔ ∃ m, e.claimsOn r k = some (false, m)) :
    e.standsAs r = true ↔ (e.run r).queue.length ≤ (e.defn r).queueLimit ∧ (e.run r).Stands (e.defn r) (e.claimsOn r) ∧
      (e.run r).Settled (e.defn r) (e.claimsOn r) := by
  simp only [Engine.standsAs, Bool.and_eq_true, decide_eq_true_eq, Run.Stands, Run.Settled]
  refine and_congr_right fun _ => ?_
  cases (e.run r).state <;> simp [holdersAre_iff, headMode_iff h, and_assoc]
  tauto

/-- The laws of the resources, resource by resource. -/
theorem resourceLaws_iff (e : Engine) :
    e.holderLaw ∧ e.queueLaw ∧ e.standingLaw ∧ e.onlineLaw ↔
      ∀ r, (e.run r).Fits (e.defn r) (e.claimsOn r) ∧ (e.run r).Settled (e.defn r) (e.claimsOn r) := by
  constructor
  · rintro ⟨hholder, hqueue, hstanding, honline⟩ r
    have hw : ∀ k, k ∈ (e.run r).queue ↔ ∃ m, e.claimsOn r k = some (false, m) := fun k =>
      ((hqueue r).2 k).trans (waits_iff e r k)
    obtain ⟨hdepth, hstands, hsettled⟩ := (standsAs_iff hw).mp (hstanding r)
    exact ⟨⟨by rw [hholder r, heldOn_eq], (hqueue r).1, hw, hdepth, hstands, (honline r).1, (honline r).2⟩, hsettled⟩
  · intro h
    refine ⟨fun r => ?_, fun r => ⟨(h r).1.nodup, fun k => ?_⟩, fun r => ?_, fun r => ⟨(h r).1.online, (h r).1.fence⟩⟩
    · rw [(h r).1.holders, heldOn_eq]
    · exact ((h r).1.waits k).trans (waits_iff e r k).symm
    · exact (standsAs_iff (h r).1.waits).mpr ⟨(h r).1.depth, (h r).1.stands, (h r).2⟩

/-! ## One record (R11 to R19, R75) -/

/-- A patience in its range (R14). One that is due has counted down to 0. -/
def Patience.Fits (due : Prop) : Patience → Prop
  | .ticks n => (1 ≤ n ∨ due) ∧ n ≤ 65534
  | .unbounded => True

/-- Held fields in their ranges (R13, R15, R16, R75). A lease that is due has counted down to 0. -/
structure Held.Fits (due : Prop) (lead fence asked : Nat) (h : Held) : Prop where
  remaining : 1 ≤ h.remaining ∨ due
  asked : h.remaining ≤ asked
  fence : 1 ≤ h.fence ∧ h.fence ≤ fence
  renewals : h.renewals ≤ 255
  state : h.state = heldState lead h.remaining

/-- A standing fits the notices its record has (R18, R19). -/
def Standing.Fits (due : Prop) (lead fence asked : Nat) (u : Unseen) : Standing → Prop
  | .waiting p => u = .empty ∧ p.Fits due
  | .held h => h.Fits due lead fence asked ∧ u.revoked = false ∧ u.lapsed = false
  | .revoked f c => (1 ≤ f ∧ f ≤ fence) ∧ u.revoked = true ∧ u.lapsed = false ∧
      (c = .expired ∨ c = .forced ∨ c = .offline)
  | .lapsed c => u = { Unseen.empty with lapsed := true } ∧ (c = .patience ∨ c = .forced ∨ c = .offline)

/-- A record fits the definition and the fence counter of its resource. -/
structure Record.Fits (due : Prop) (d : Definition) (fence : Nat) (rec : Record) : Prop where
  asked : 1 ≤ rec.asked ∧ rec.asked ≤ 65535
  line : rec.isLive = true → d.kind = .line → rec.mode = .exclusive
  standing : rec.standing.Fits due d.lead fence rec.asked rec.unseen

theorem standing_fits_iff (lead fence : Nat) (rec : Record) :
    (1 ≤ rec.asked ∧ rec.asked ≤ 65535) ∧ rec.standing.Fits False lead fence rec.asked rec.unseen ↔
      rec.ranged fence = true ∧ rec.warned lead = true ∧ rec.notices = true := by
  unfold Record.ranged Record.warned Record.notices
  cases hs : rec.standing with
  | waiting p =>
    cases p with
    | ticks n => simp [Standing.Fits, Patience.Fits]; tauto
    | unbounded => simp [Standing.Fits, Patience.Fits]
  | held h =>
    have hfits : h.Fits False lead fence rec.asked ↔ (1 ≤ h.remaining ∧ h.remaining ≤ rec.asked ∧ 1 ≤ h.fence ∧
        h.fence ≤ fence ∧ h.renewals ≤ 255) ∧ h.state = heldState lead h.remaining :=
      ⟨fun ⟨h1, h2, h3, h4, h5⟩ => ⟨⟨h1.resolve_right id, h2, h3.1, h3.2, h4⟩, h5⟩,
        fun ⟨⟨h1, h2, h3, h4, h5⟩, h6⟩ => ⟨.inl h1, h2, ⟨h3, h4⟩, h5, h6⟩⟩
    simp [Standing.Fits, hfits, heldState]
    tauto
  | revoked f c => simp [Standing.Fits]; tauto
  | lapsed c => simp [Standing.Fits]; tauto

/-- The laws of the records, record by record. -/
theorem recordLaws_iff (e : Engine) :
    e.rangeLaw ∧ e.warnLaw ∧ e.noticeLaw ∧ e.lineModeLaw ↔
      ∀ k rec, e.record k = some rec → rec.Fits False (e.defn rec.resource) (e.run rec.resource).fence := by
  have hone : ∀ (rec : Record) (d : Definition) (fence : Nat), rec.Fits False d fence ↔
      (rec.ranged fence = true ∧ rec.warned d.lead = true ∧ rec.notices = true) ∧
        (!(rec.isLive && decide (d.kind = .line)) || decide (rec.mode = .exclusive)) = true := by
    intro rec d fence
    rw [← standing_fits_iff]
    refine ⟨fun ⟨ha, hl, hs⟩ => ⟨⟨ha, hs⟩, ?_⟩, fun ⟨⟨ha, hs⟩, hl⟩ => ⟨ha, fun hlive hline => ?_, hs⟩⟩
    · by_cases hlive : rec.isLive = true <;> by_cases hline : d.kind = .line <;> simp_all
    · simpa [hlive, hline] using hl
  simp only [Engine.rangeLaw, Engine.warnLaw, Engine.noticeLaw, Engine.lineModeLaw, ← forall_and]
  refine forall_congr' fun k => ?_
  cases e.record k with
  | none => simp
  | some rec => simp only [Option.all_some, Option.some.injEq, forall_eq', hone, and_assoc]

/-! ## The whole engine -/

/-- No two held records on one resource carry the same fence (R113). -/
def Engine.FencesDiffer (e : Engine) : Prop :=
  ∀ j k x y g h, j ≠ k → e.record j = some x → e.record k = some y → x.standing = .held g → y.standing = .held h →
    x.resource = y.resource → g.fence ≠ h.fence

theorem fenceLaw_iff (e : Engine) : e.fenceLaw ↔ e.FencesDiffer := by
  constructor
  · intro hlaw j k x y g h hjk hj hk hx hy hr
    have := hlaw j k hjk
    simpa [hj, hk, hx, hy, hr] using this
  · intro hd j k hjk
    cases hj : e.record j with
    | none => rfl
    | some x =>
      cases hk : e.record k with
      | none => rfl
      | some y =>
        simp only [Option.all_some]
        split
        · rename_i g h hx hy
          by_cases hr : x.resource = y.resource
          · simpa [hr] using hd j k x y g h hjk hj hk hx hy hr
          · simp [hr]
        · rfl

/-- The lease engine keeps the laws of its records and resources, but that the records in slots `due` may have counted
down to 0, admission has still to run for the resources `loose`, and the band rule for the resources `unruled`. -/
structure Engine.Sound (e : Engine) (due : Set SlotId) (loose unruled : Set ResourceId) : Prop where
  profiles : ∀ p, (Table.get e.profiles p).valid = true
  defns : ∀ r, (e.defn r).valid r = true
  records : ∀ k rec, e.record k = some rec → rec.Fits (k ∈ due) (e.defn rec.resource) (e.run rec.resource).fence
  fences : e.FencesDiffer
  fits : ∀ r, (e.run r).Fits (e.defn r) (e.claimsOn r)
  bands : ∀ r, (e.run r).band ≤ 3 ∧ ((e.run r).state = .offline → (e.run r).band = 0)
  ruled : ∀ r, r ∉ unruled → (e.run r).Banded (e.profileOf r)
  settled : ∀ r, r ∉ loose → (e.run r).Settled (e.defn r) (e.claimsOn r)

/-- Between two happenings nothing is due, loose or unruled. -/
theorem sound_iff (e : Engine) : e.Sound ∅ ∅ ∅ ↔
    ((∀ p, (Table.get e.profiles p).valid = true) ∧ ∀ r, (e.defn r).valid r = true) ∧
    (e.rangeLaw ∧ e.warnLaw ∧ e.noticeLaw ∧ e.lineModeLaw) ∧
    (e.holderLaw ∧ e.queueLaw ∧ e.standingLaw ∧ e.onlineLaw) ∧ e.bandLaw ∧ e.fenceLaw := by
  rw [recordLaws_iff, resourceLaws_iff, fenceLaw_iff, bandLaw_iff]
  constructor
  · intro h
    exact ⟨⟨h.profiles, h.defns⟩, h.records, fun r => ⟨h.fits r, h.settled r (Set.notMem_empty r)⟩,
      fun r => h.ruled r (Set.notMem_empty r), h.fences⟩
  · rintro ⟨⟨hp, hd⟩, hrec, hres, hband, hfence⟩
    refine ⟨hp, hd, hrec, hfence, fun r => (hres r).1, fun r => ⟨(hband r).1, fun ho => ?_⟩, fun r _ => hband r,
      fun r _ => (hres r).2⟩
    have := (hband r).2
    rwa [if_pos ho] at this

end Sys2Proof.Machine
end

section
/-! PROOF. What fits one resource goes on to fit it: a holder leaves, a waiter leaves, a grant, a wait; the band rule;
and what fits one record goes on to fit it. -/

namespace Sys2Proof.Machine

/-! ## Claims that change -/

theorem holders_update (v : Claims) (k : SlotId) (c : Option (Bool × Mode)) :
    Claims.holders (Function.update v k c) + ((v k).any Prod.fst).toNat = v.holders + (c.any Prod.fst).toNat := by
  have h := countP_change (fun j => (v j).any Prod.fst) (fun j => (Function.update v k c j).any Prod.fst) k
    fun j hj => by rw [Function.update_of_ne hj]
  rwa [Function.update_self] at h

/-- A holder counts. -/
theorem holders_pos {v : Claims} {k : SlotId} {m : Mode} (h : v k = some (true, m)) : 1 ≤ v.holders := by
  have := holders_update v k none
  rw [h] at this
  simp at this
  omega

/-- Where nobody holds, any mode is every holder's. -/
theorem heldAs_of_no_holder {v : Claims} (h : v.holders = 0) (m : Mode) : v.HeldAs m := by
  intro k m' hk
  have := holders_pos hk
  omega

theorem heldAs_update_none {v : Claims} {m : Mode} (h : v.HeldAs m) (k : SlotId) (c : Option (Bool × Mode))
    (hc : ∀ m', c = some (true, m') → m' = m) : Claims.HeldAs (Function.update v k c) m := by
  intro j m' hj
  by_cases hjk : j = k
  · rw [hjk, Function.update_self] at hj
    exact hc m' hj
  · rw [Function.update_of_ne hjk] at hj
    exact h j m' hj

/-! ## A resource's run record -/

section Run

variable {d : Definition} {v : Claims} {x : Run} {k : SlotId}

/-- The table of R29 at a resource where nobody holds. -/
theorem Run.Fits.no_holder_states (h : x.Fits d v) (h1 : 1 ≤ x.holders) :
    x.state = .exclusive ∨ x.state = .shared ∨ x.state = .draining := by
  have hs := h.stands
  unfold Run.Stands at hs
  cases hst : x.state <;> simp only [hst] at hs
  case offline | free | quarantine => omega
  all_goals simp

/-- The mode of a holder names its resource's row (R29). -/
theorem Run.Fits.holder_mode {m : Mode} (h : x.Fits d v) (hk : v k = some (true, m)) :
    (m = .exclusive ∧ x.state = .exclusive ∧ x.holders = 1) ∨
    (m = .shared ∧ (x.state = .shared ∨ x.state = .draining)) := by
  have hpos := holders_pos hk
  rw [← h.holders] at hpos
  have hs := h.stands
  unfold Run.Stands at hs
  rcases h.no_holder_states hpos with hst | hst | hst <;> simp only [hst] at hs
  · exact .inl ⟨hs.2 k m hk, hst, hs.1⟩
  · exact .inr ⟨hs.2.2 k m hk, .inl hst⟩
  · exact .inr ⟨hs.2 k m hk, .inr hst⟩

/-- A run record after a holder of mode `m` has left it (R43). -/
def Run.departed (x : Run) (m : Mode) : Run :=
  { x with state := departedState m x.state (x.holders - 1), holders := x.holders - 1 }

/-- R43 keeps the row of R29. -/
theorem Run.Fits.depart {m : Mode} (h : x.Fits d v) (hk : v k = some (true, m)) :
    (x.departed m).Fits d (Function.update v k none) := by
  have hcount := holders_update v k none
  rw [hk] at hcount
  simp only [Option.any_some, Bool.toNat_true, Option.any_none, Bool.toNat_false] at hcount
  have hx := h.holders
  have hmode : ∀ {m'}, v.HeldAs m' → Claims.HeldAs (Function.update v k none) m' := fun hh =>
    heldAs_update_none hh k none nofun
  refine ⟨?_, h.nodup, fun j => ?_, h.depth, ?_, fun ho => ?_, h.fence⟩
  · simp only [Run.departed]
    omega
  · change j ∈ x.queue ↔ _
    rw [h.waits j]
    by_cases hjk : j = k
    · simp [hjk, hk]
    · rw [Function.update_of_ne hjk]
  · have hs := h.stands
    rcases h.holder_mode hk with ⟨rfl, hst, hone⟩ | ⟨rfl, hst | hst⟩
    · simp only [Run.Stands, Run.departed, hst, departedState]
      omega
    · simp only [Run.Stands, hst] at hs
      simp only [Run.Stands, Run.departed, hst, departedState]
      by_cases hz : x.holders - 1 = 0
      · simp [hz]
      · rw [if_neg hz]
        exact ⟨by omega, by omega, hmode hs.2.2⟩
    · simp only [Run.Stands, hst] at hs
      simp only [Run.Stands, Run.departed, hst, departedState]
      exact ⟨by omega, hmode hs.2⟩
  · have hoff := h.online ho
    have hs := h.stands
    simp only [Run.Stands, hoff] at hs
    have := holders_pos hk
    omega

theorem Run.Fits.not_offline_of_holder {m : Mode} (h : x.Fits d v) (hk : v k = some (true, m)) :
    x.state ≠ .offline := by
  intro ho
  rcases h.holder_mode hk with ⟨-, hst, -⟩ | ⟨-, hst | hst⟩ <;> rw [ho] at hst <;> exact absurd hst nofun

/-- An EXCLUSIVE lease that ends leaves the resource without holders, and so fit for QUARANTINE (R101). -/
theorem Run.Fits.rest {q : Nat} (h : x.Fits d v) (hk : v k = some (true, .exclusive)) (h1 : 1 ≤ q) (h2 : q ≤ 255) :
    Run.Fits d (Function.update v k none) { x.departed .exclusive with state := .quarantine q } := by
  have hd := h.depart hk
  have hoff := h.not_offline_of_holder hk
  refine ⟨hd.holders, hd.nodup, hd.waits, hd.depth, ?_, fun ho => absurd (h.online ho) hoff, hd.fence⟩
  rcases h.holder_mode hk with ⟨-, -, hone⟩ | ⟨hm, -⟩
  · refine ⟨?_, h1, h2⟩
    simp only [Run.departed]
    omega
  · exact absurd hm nofun

/-- A resource that waits for another state is not OFFLINE. -/
theorem Run.Fits.not_offline_of_waiter {m : Mode} (h : x.Fits d v) (hk : v k = some (false, m)) :
    x.state ≠ .offline := by
  intro ho
  have hs := h.stands
  simp only [Run.Stands, ho] at hs
  have := (h.waits k).mpr ⟨m, hk⟩
  rw [hs.2] at this
  exact absurd this List.not_mem_nil

/-- The row of R29 where a claim changes that is no holder's. -/
theorem Run.Stands.update {y : Run} {c : Option (Bool × Mode)} (hs : x.Stands d v) (hoff : x.state ≠ .offline)
    (hstate : y.state = x.state) (hholders : y.holders = x.holders) (hc : ∀ m, c ≠ some (true, m)) :
    y.Stands d (Function.update v k c) := by
  have hmode : ∀ {m'}, v.HeldAs m' → Claims.HeldAs (Function.update v k c) m' := fun hh =>
    heldAs_update_none hh k c fun m' h => absurd h (hc m')
  unfold Run.Stands at hs ⊢
  rw [hstate, hholders]
  cases hst : x.state <;> simp only [hst] at hs ⊢
  · exact absurd hst hoff
  · exact hs
  · exact ⟨hs.1, hmode hs.2⟩
  · exact ⟨hs.1, hs.2.1, hmode hs.2.2⟩
  · exact ⟨hs.1, hmode hs.2⟩
  · exact hs

/-- A waiter leaves, and those behind it close the gap (R45). -/
theorem Run.Fits.unqueue {m : Mode} (h : x.Fits d v) (hk : v k = some (false, m)) :
    Run.Fits d (Function.update v k none) { x with queue := x.queue.erase k } := by
  have hcount := holders_update v k none
  rw [hk] at hcount
  simp only [Option.any_some, Bool.toNat_false, Option.any_none] at hcount
  refine ⟨h.holders.trans hcount.symm, h.nodup.erase k, fun j => ?_, List.length_erase_le.trans h.depth,
    h.stands.update (h.not_offline_of_waiter hk) rfl rfl nofun, h.online, h.fence⟩
  rw [h.nodup.mem_erase_iff, h.waits j]
  by_cases hjk : j = k
  · simp [hjk]
  · simp [hjk]

/-- A record joins the tail of the queue (R55). -/
theorem Run.Fits.enqueue (h : x.Fits d v) (m : Mode) (hk : v k = none) (hoff : x.state ≠ .offline)
    (hlen : x.queue.length < d.queueLimit) :
    Run.Fits d (Function.update v k (some (false, m))) { x with queue := x.queue ++ [k] } := by
  have hcount := holders_update v k (some (false, m))
  rw [hk] at hcount
  simp only [Option.any_some, Bool.toNat_false, Option.any_none] at hcount
  have hnot : k ∉ x.queue := fun hm => by
    obtain ⟨m', hm'⟩ := (h.waits k).mp hm
    rw [hk] at hm'
    exact absurd hm' nofun
  refine ⟨h.holders.trans hcount.symm, ?_, fun j => ?_, ?_, h.stands.update hoff rfl rfl nofun, h.online, h.fence⟩
  · exact List.nodup_append.mpr ⟨h.nodup, List.nodup_singleton k, fun a ha b hb hab => hnot (by simp_all)⟩
  · rw [List.mem_append, h.waits j, List.mem_singleton]
    by_cases hjk : j = k
    · simp [hjk]
    · simp [hjk]
  · simp only [List.length_append, List.length_singleton]
    omega

/-- A run record after a grant of mode `m` (R42). -/
def Run.joined (x : Run) (m : Mode) : Run :=
  { x with state := m.grantedState, holders := x.holders + 1, fence := x.fence + 1 }

/-- A record of mode `m` may join the holders: alone where it is EXCLUSIVE, else among SHARED holders below capacity. -/
def Run.Admits (d : Definition) (v : Claims) (x : Run) : Mode → Prop
  | .exclusive => x.holders = 0
  | .shared => x.holders < d.capacity ∧ v.HeldAs .shared

theorem Run.Fits.join {m : Mode} (h : x.Fits d v) (hk : v k = none) (hoff : x.state ≠ .offline) (hm : x.Admits d v m)
    (hf : x.fence < Config.fenceMax) : (x.joined m).Fits d (Function.update v k (some (true, m))) := by
  have hcount := holders_update v k (some (true, m))
  rw [hk] at hcount
  simp only [Option.any_some, Bool.toNat_false, Option.any_none, Bool.toNat_true] at hcount
  have hx := h.holders
  refine ⟨?_, h.nodup, fun j => ?_, h.depth, ?_, fun ho => absurd (h.online ho) hoff, hf⟩
  · simp only [Run.joined]
    omega
  · change j ∈ x.queue ↔ _
    rw [h.waits j]
    by_cases hjk : j = k
    · simp [hjk, hk]
    · rw [Function.update_of_ne hjk]
  · cases m with
    | exclusive =>
      simp only [Run.Admits] at hm
      refine ⟨?_, heldAs_update_none (heldAs_of_no_holder (by omega) _) k _ fun m' h => ?_⟩
      · simp only [Run.joined]
        omega
      · simp only [Option.some.injEq, Prod.mk.injEq, true_and] at h
        exact h.symm
    | shared =>
      simp only [Run.Admits] at hm
      refine ⟨?_, ?_, heldAs_update_none hm.2 k _ fun m' h => ?_⟩
      · simp only [Run.joined]
        omega
      · simp only [Run.joined]
        omega
      · simp only [Option.some.injEq, Prod.mk.injEq, true_and] at h
        exact h.symm

/-- The band is no part of what fits. -/
theorem Run.Fits.setBand (h : x.Fits d v) (b : Nat) : Run.Fits d v { x with band := b } :=
  ⟨h.holders, h.nodup, h.waits, h.depth, h.stands, h.online, h.fence⟩

/-- A state other than OFFLINE whose row of R29 fits. -/
theorem Run.Fits.setState {st : ResourceState} (h : x.Fits d v) (hoff : x.state ≠ .offline)
    (hs : Run.Stands d v { x with state := st }) : Run.Fits d v { x with state := st } :=
  ⟨h.holders, h.nodup, h.waits, h.depth, hs, fun ho => absurd (h.online ho) hoff, h.fence⟩

/-- A resource without live records fits as R30 leaves it at OFFLINE. -/
theorem Run.fits_offline {y : Run} (hstate : y.state = .offline) (hholders : y.holders = 0) (hqueue : y.queue = [])
    (hf : y.fence ≤ Config.fenceMax) (hv : ∀ k, v k = none) : y.Fits d v := by
  have hcount : v.holders = 0 := by simp [Claims.holders, hv]
  refine ⟨by rw [hholders, hcount], by rw [hqueue]; exact List.nodup_nil, fun j => by rw [hqueue, hv]; simp, ?_, ?_,
    fun _ => hstate, hf⟩
  · rw [hqueue]
    exact Nat.zero_le _
  · simp only [Run.Stands, hstate]
    exact ⟨hholders, hqueue⟩

/-- A resource without live records fits as R30 leaves it at FREE. -/
theorem Run.fits_free {y : Run} (hstate : y.state = .free) (hholders : y.holders = 0) (hqueue : y.queue = [])
    (hf : y.fence ≤ Config.fenceMax) (hd : d.defined = true) (hs : y.spent = false) (hv : ∀ k, v k = none) :
    y.Fits d v := by
  have hcount : v.holders = 0 := by simp [Claims.holders, hv]
  refine ⟨by rw [hholders, hcount], by rw [hqueue]; exact List.nodup_nil, fun j => by rw [hqueue, hv]; simp, ?_, ?_,
    fun ho => ?_, hf⟩
  · rw [hqueue]
    exact Nat.zero_le _
  · simp only [Run.Stands, hstate]
    exact hholders
  · rw [hd, hs] at ho
    exact absurd ho (by simp)

/-- Nothing live claims an OFFLINE resource. -/
theorem Run.Fits.no_claim (h : x.Fits d v) (hoff : x.state = .offline) (k : SlotId) : v k = none := by
  cases hk : v k with
  | none => rfl
  | some c =>
    obtain ⟨held, m⟩ := c
    cases held with
    | true => exact absurd hoff (h.not_offline_of_holder hk)
    | false => exact absurd hoff (h.not_offline_of_waiter hk)

end Run

/-! ## Bands (R89, R90) -/

/-- The band the band rule leaves at depth `depth` (R90). -/
def ruledBand (p : Profile) (depth b : Nat) : Nat :=
  if b < bandRise p depth 3 b then bandRise p depth 3 b else bandFall p depth 3 b

/-- R90 step 1 stops at the top or where the next threshold is out of reach. It has risen only past thresholds
reached. -/
theorem bandRise_spec (p : Profile) (depth fuel : Nat) {b : Nat} (hb : b ≤ 3) (hf : 3 ≤ b + fuel) :
    let up := bandRise p depth fuel b
    b ≤ up ∧ up ≤ 3 ∧ (up ≤ 2 → depth < p.threshold (up + 1) + p.h) ∧ (b < up → p.threshold up ≤ depth) := by
  induction fuel generalizing b with
  | zero =>
    simp only [bandRise]
    omega
  | succ fuel ih =>
    simp only [bandRise]
    split
    · rename_i h
      obtain ⟨h1, h2, h3, h4⟩ := ih (b := b + 1) (by omega) (by omega)
      refine ⟨by omega, h2, h3, fun _ => ?_⟩
      by_cases heq : b + 1 < bandRise p depth fuel (b + 1)
      · exact h4 heq
      · rw [show bandRise p depth fuel (b + 1) = b + 1 by omega]
        omega
    · rename_i h
      refine ⟨le_rfl, hb, fun h2 => ?_, fun hlt => absurd hlt (lt_irrefl b)⟩
      by_contra hge
      exact h ⟨by omega, by omega⟩

/-- R90 step 2 stops at band 0 or at a threshold reached. It has fallen only below thresholds not reached. -/
theorem bandFall_spec (p : Profile) (depth fuel : Nat) {b : Nat} (hf : b ≤ fuel) :
    let down := bandFall p depth fuel b
    down ≤ b ∧ (1 ≤ down → p.threshold down ≤ depth) ∧ (down < b → depth < p.threshold (down + 1)) := by
  induction fuel generalizing b with
  | zero =>
    simp only [bandFall]
    omega
  | succ fuel ih =>
    simp only [bandFall]
    split
    · rename_i h
      obtain ⟨h1, h2, h3⟩ := ih (b := b - 1) (by omega)
      refine ⟨by omega, h2, fun _ => ?_⟩
      by_cases heq : bandFall p depth fuel (b - 1) < b - 1
      · exact h3 heq
      · rw [show bandFall p depth fuel (b - 1) + 1 = b by omega]
        exact h.2
    · rename_i h
      refine ⟨le_rfl, fun h1 => ?_, fun hlt => absurd hlt (lt_irrefl b)⟩
      by_contra hge
      exact h ⟨by omega, by omega⟩

/-- The band rule leaves the law of R89. -/
theorem ruledBand_spec (p : Profile) (depth : Nat) {b : Nat} (hb : b ≤ 3) :
    let b' := ruledBand p depth b
    b' ≤ 3 ∧ (1 ≤ b' → p.threshold b' ≤ depth) ∧ (b' ≤ 2 → depth < p.threshold (b' + 1) + p.h) := by
  obtain ⟨h1, h2, h3, h4⟩ := bandRise_spec p depth 3 hb (by omega)
  obtain ⟨h5, h6, h7⟩ := bandFall_spec p depth 3 hb
  unfold ruledBand
  split
  · rename_i hlt
    exact ⟨h2, fun _ => h4 hlt, h3⟩
  · rename_i hlt
    refine ⟨by omega, h6, fun hle => ?_⟩
    by_cases heq : bandFall p depth 3 b < b
    · exact (h7 heq).trans_le (Nat.le_add_right _ _)
    · have hup : bandRise p depth 3 b = b := by omega
      have hdown : bandFall p depth 3 b = b := by omega
      rw [hup] at h3
      rw [hdown] at hle ⊢
      exact h3 hle

/-- Every ceiling of a valid profile is at least 1 (R86). -/
theorem ceiling_pos {p : Profile} (h : p.valid = true) (b : Nat) : 1 ≤ p.ceiling b := by
  simp only [Profile.valid, Profile.inRange, Bool.and_eq_true, List.all_cons, List.all_nil, decide_eq_true_eq] at h
  unfold Profile.ceiling
  split <;> omega

/-- The first threshold of a valid profile is at least 1 (R86). -/
theorem threshold_one_pos {p : Profile} (h : p.valid = true) : 1 ≤ p.threshold 1 := by
  simp only [Profile.valid, Profile.inRange, Bool.and_eq_true, List.all_cons, List.all_nil, decide_eq_true_eq] at h
  change 1 ≤ p.t1
  omega

/-- Band 0 with an empty queue keeps the law of R89. -/
theorem banded_zero {p : Profile} {x : Run} (hp : p.valid = true) (hb : x.band = 0) (hq : x.queue = []) :
    x.Banded p := by
  have := threshold_one_pos hp
  refine ⟨by omega, ?_⟩
  split
  · exact hb
  · rw [hb, hq]
    refine ⟨by omega, fun _ => ?_⟩
    simp only [List.length_nil, Nat.zero_add]
    omega

/-- The law of R89 looks at the band, the queue and whether the resource is OFFLINE. -/
theorem Run.Banded.congr {p : Profile} {x y : Run} (h : x.Banded p) (hb : y.band = x.band) (hq : y.queue = x.queue)
    (hs : y.state = .offline ↔ x.state = .offline) : y.Banded p := by
  unfold Run.Banded at h ⊢
  rw [hb, hq]
  simpa only [hs] using h

/-! ## Records -/

section Records

variable {due : Prop} {d : Definition} {fence : Nat} {rec : Record}

/-- A record goes on to fit where its fence counter has risen. -/
theorem Record.Fits.mono {fence' : Nat} (h : rec.Fits due d fence) (hf : fence ≤ fence') : rec.Fits due d fence' := by
  refine ⟨h.asked, h.line, ?_⟩
  have hs := h.standing
  revert hs
  cases rec.standing with
  | waiting p => exact id
  | held x =>
    exact fun ⟨hx, hu⟩ =>
      ⟨⟨hx.remaining, hx.asked, ⟨hx.fence.1, hx.fence.2.trans hf⟩, hx.renewals, hx.state⟩, hu⟩
  | revoked f c => exact fun ⟨hfence, hu⟩ => ⟨⟨hfence.1, hfence.2.trans hf⟩, hu⟩
  | lapsed c => exact id

/-- A record that is not due yet may become due. -/
theorem Record.Fits.imp {due' : Prop} (h : rec.Fits due d fence) (hd : due → due') : rec.Fits due' d fence := by
  refine ⟨h.asked, h.line, ?_⟩
  have hs := h.standing
  revert hs
  cases rec.standing with
  | waiting p =>
    cases p with
    | ticks n => exact fun ⟨hu, hp⟩ => ⟨hu, hp.1.imp_right hd, hp.2⟩
    | unbounded => exact id
  | held x => exact fun ⟨hx, hu⟩ => ⟨⟨hx.remaining.imp_right hd, hx.asked, hx.fence, hx.renewals, hx.state⟩, hu⟩
  | revoked f c => exact id
  | lapsed c => exact id

/-- A tombstone is never due, and its resource's definition is nothing to it. -/
theorem Record.Fits.of_dead {due' : Prop} {d' : Definition} (h : rec.Fits due d fence) (hl : rec.isLive = false) :
    rec.Fits due' d' fence := by
  refine ⟨h.asked, fun hlive => by rw [hl] at hlive; exact absurd hlive nofun, ?_⟩
  have hs := h.standing
  rw [Record.isLive] at hl
  revert hl hs
  cases rec.standing with
  | waiting p => exact fun hl => absurd hl nofun
  | held x => exact fun hl => absurd hl nofun
  | revoked f c => exact fun _ => id
  | lapsed c => exact fun _ => id

theorem Record.Fits.held {h : Held} (hr : rec.Fits due d fence) (hs : rec.standing = .held h) :
    h.Fits due d.lead fence rec.asked ∧ rec.unseen.revoked = false ∧ rec.unseen.lapsed = false := by
  have := hr.standing
  rwa [hs] at this

theorem Record.Fits.waiting {p : Patience} (hr : rec.Fits due d fence) (hs : rec.standing = .waiting p) :
    rec.unseen = .empty ∧ p.Fits due := by
  have := hr.standing
  rwa [hs] at this

/-- A held record with new held fields, and with more notices of its lease (R76, R79, R94). -/
theorem Record.Fits.setHeld {h h' : Held} {asked : Nat} {u : Unseen} {due' : Prop} (hr : rec.Fits due d fence)
    (hs : rec.standing = .held h) (ha : 1 ≤ asked ∧ asked ≤ 65535) (hh : h'.Fits due' d.lead fence asked)
    (hu : u.revoked = rec.unseen.revoked ∧ u.lapsed = rec.unseen.lapsed) :
    Record.Fits due' d fence { rec with asked := asked, unseen := u, standing := .held h' } := by
  obtain ⟨-, h1, h2⟩ := hr.held hs
  exact ⟨ha, fun _ => hr.line (isLive_of_isHeld (isHeld_of_standing hs)), hh, hu.1.trans h1, hu.2.trans h2⟩

/-- WARNED is kept where the remaining count falls (R75). -/
theorem heldState_of_le {lead a b : Nat} (h : b ≤ a) :
    (if heldState lead a = .warned then .warned else heldState lead b) = heldState lead b := by
  unfold heldState
  by_cases ha : lead ≠ 0 ∧ a ≤ lead
  · rw [if_pos ha, if_pos rfl, if_pos ⟨ha.1, by omega⟩]
  · rw [if_neg ha, if_neg (by decide)]

/-- The countdown keeps the state that R75 gives, also where it does not look at it, at 0 (R70). -/
theorem heldState_countdown {lead a : Nat} (h : 1 ≤ a) :
    (if heldState lead a = .active ∧ a - 1 ≠ 0 then heldState lead (a - 1) else heldState lead a) =
      heldState lead (a - 1) := by
  split
  · rfl
  · rename_i hn
    unfold heldState at hn ⊢
    by_cases hw : lead ≠ 0 ∧ a ≤ lead
    · rw [if_pos hw, if_pos ⟨hw.1, by omega⟩]
    · rw [if_neg hw] at hn
      have ha : a = 1 := by
        by_contra hne
        exact hn ⟨rfl, by omega⟩
      rw [if_neg hw, if_neg (by omega)]

/-- A squeezed record fits, under a ceiling of at least 1 (R94). -/
theorem Record.Fits.squeeze {c : Nat} (hr : rec.Fits due d fence) (hc : 1 ≤ c) :
    (rec.squeeze d.lead c).Fits due d fence := by
  unfold Record.squeeze
  split
  · rename_i h hs
    obtain ⟨hh, -, -⟩ := hr.held hs
    split
    · rename_i hlt
      refine hr.setHeld hs hr.asked ⟨.inl hc, hlt.le.trans hh.asked, hh.fence, hh.renewals, ?_⟩ ⟨rfl, rfl⟩
      simp only [hh.state]
      exact heldState_of_le hlt.le
    · exact hr
  · exact hr

/-- A renewed record fits (R79). -/
theorem renewed_fits {e : Engine} {h : Held} {term : Option Nat} (hr : rec.Fits due (e.defn rec.resource) fence)
    (hs : rec.standing = .held h) (hp : (e.profileOf rec.resource).valid = true)
    (ht : ∀ v, term = some v → 1 ≤ v ∧ v ≤ 65535) :
    (e.renewed rec h term).1.Fits due (e.defn rec.resource) fence := by
  obtain ⟨hh, -, -⟩ := hr.held hs
  have hasked : 1 ≤ term.getD rec.asked ∧ term.getD rec.asked ≤ 65535 := by
    cases term with
    | none => exact hr.asked
    | some v => exact ht v rfl
  have hceil : 1 ≤ e.ceiling rec.resource := ceiling_pos hp _
  have hcount := hh.renewals
  refine hr.setHeld hs hasked ⟨.inl (by simp only; omega), by simp only; omega, hh.fence, ?_, rfl⟩ ⟨rfl, rfl⟩
  by_cases hlt : h.renewals < Config.renewalsMax
  · simp only [hlt, if_true]
    exact hlt
  · simp only [hlt, if_false]
    exact hcount

/-- A revoked record fits, but for the cause BARRED, which stands only within a BAR (R19, R100, R102). -/
theorem revoke_fits {h : Held} {c : Cause} (hr : rec.Fits due d fence) (hs : rec.standing = .held h)
    (hc : c = .expired ∨ c = .forced ∨ c = .offline) (due' : Prop) : (rec.revoke c).Fits due' d fence := by
  obtain ⟨hh, -, hl⟩ := hr.held hs
  simp only [Record.revoke, hs]
  exact ⟨hr.asked, nofun, hh.fence, rfl, hl, hc⟩

/-- A lapsed record fits (R19, R71, R110). -/
theorem lapse_fits {p : Patience} {c : Cause} (hr : rec.Fits due d fence) (hs : rec.standing = .waiting p)
    (hc : c = .patience ∨ c = .forced ∨ c = .offline) (due' : Prop) : (rec.lapse c).Fits due' d fence := by
  obtain ⟨hu, -⟩ := hr.waiting hs
  simp only [Record.lapse, hs]
  exact ⟨hr.asked, nofun, by rw [hu], hc⟩

/-- A record granted from the queue fits, its fence the raised counter (R58). -/
theorem grant_fits {p : Patience} {c : Nat} (hr : rec.Fits due d fence) (hs : rec.standing = .waiting p) (hc : 1 ≤ c)
    (due' : Prop) : (rec.grant (grantedHeld d.lead c rec.asked (fence + 1))).Fits due' d (fence + 1) := by
  obtain ⟨hu, -⟩ := hr.waiting hs
  have ha := hr.asked
  refine ⟨ha, fun _ => hr.line (isLive_of_isWaiting (isWaiting_of_standing hs)),
    ⟨.inl ?_, ?_, ⟨?_, ?_⟩, Nat.zero_le _, rfl⟩, ?_, ?_⟩
  · simp only [grantedHeld]
    omega
  · simp only [grantedHeld, Record.grant]
    omega
  · simp only [grantedHeld]
    omega
  · simp only [grantedHeld]
    omega
  · simp only [Record.grant, hu, Unseen.empty]
  · simp only [Record.grant, hu, Unseen.empty]

/-- Notices taken away by an ACK that does not free the record (R144). -/
theorem acknowledged_fits {named : Unseen} (hr : rec.Fits due d fence)
    (hs : rec.standing.acknowledged named = false) :
    Record.Fits due d fence { rec with unseen := rec.unseen.without named } := by
  refine ⟨hr.asked, hr.line, ?_⟩
  have hfit := hr.standing
  revert hfit hs
  cases rec.standing with
  | waiting p =>
    rintro - ⟨hu, hp⟩
    exact ⟨by rw [hu]; rfl, hp⟩
  | held h =>
    rintro - ⟨hh, h1, h2⟩
    exact ⟨hh, by simp only [Unseen.without, h1, Bool.false_and], by simp only [Unseen.without, h2, Bool.false_and]⟩
  | revoked f c =>
    rintro hn ⟨hf, h1, h2, hc⟩
    have hn' : named.revoked = false := hn
    exact ⟨hf, by simp only [Unseen.without, h1, hn', Bool.not_false, Bool.and_self],
      by simp only [Unseen.without, h2, Bool.false_and], hc⟩
  | lapsed c =>
    rintro hn ⟨hu, hc⟩
    have hn' : named.lapsed = false := hn
    exact ⟨by simp only [hu, Unseen.without, Unseen.empty, hn', Bool.false_and, Bool.not_false, Bool.and_self], hc⟩

/-- A record that has counted down fits, being due where the tick marks it (R70, R75). -/
theorem countdown_fits (hr : rec.Fits False d fence) :
    (rec.countdown d.lead).Fits (rec.lapses = true ∨ rec.expires = true) d fence := by
  unfold Record.countdown
  split
  · rename_i p hs
    obtain ⟨hu, hp⟩ := hr.waiting hs
    have hp1 := hp.1.resolve_right id
    refine ⟨hr.asked, fun _ => hr.line (isLive_of_isWaiting (isWaiting_of_standing hs)), hu, ?_, ?_⟩
    · by_cases h1 : p ≤ 1
      · exact .inr (.inl (by simp [Record.lapses, hs, h1]))
      · exact .inl (by omega)
    · have := hp.2
      omega
  · rename_i h hs
    obtain ⟨hh, -, -⟩ := hr.held hs
    have hrem := hh.remaining.resolve_right id
    have hask := hh.asked
    refine hr.setHeld hs hr.asked ⟨?_, by simp only; omega, hh.fence, hh.renewals, ?_⟩ ⟨rfl, rfl⟩
    · by_cases h1 : h.remaining ≤ 1
      · exact .inr (.inr (by simp [Record.expires, hs, h1]))
      · exact .inl (by simp only; omega)
    · simp only [hh.state]
      exact heldState_countdown hrem
  · exact hr.imp False.elim

/-- A record as ACQUIRE makes it, granted at once (R54). -/
theorem acquired_held_fits {e : Engine} {n : Client} {r : ResourceId} {a : AcquireArgs}
    (ha : 1 ≤ a.term ∧ a.term ≤ 65535) (hline : a.mode = .shared → (e.defn r).kind ≠ .line)
    (hp : (e.profileOf r).valid = true) (due : Prop) :
    (a.record n r (.held (e.immediateHeld r a))).Fits due (e.defn r) ((e.run r).fence + 1) := by
  have hc := ceiling_pos hp 0
  refine ⟨ha, fun _ hl => ?_, ⟨.inl ?_, ?_, ⟨?_, ?_⟩, Nat.zero_le _, rfl⟩, rfl, rfl⟩
  · cases hm : a.mode with
    | exclusive => exact hm
    | shared => exact absurd hl (hline hm)
  · simp only [Engine.immediateHeld, grantedHeld]
    omega
  · simp only [Engine.immediateHeld, grantedHeld, AcquireArgs.record]
    omega
  · simp only [Engine.immediateHeld, grantedHeld]
    omega
  · simp only [Engine.immediateHeld, grantedHeld]
    omega

/-- A record as ACQUIRE makes it, waiting (R55). -/
theorem acquired_waiting_fits {d : Definition} {n : Client} {r : ResourceId} {a : AcquireArgs}
    (ha : 1 ≤ a.term ∧ a.term ≤ 65535) (hline : a.mode = .shared → d.kind ≠ .line)
    (hp : 1 ≤ a.patience ∧ a.patience ≤ 65535) (due : Prop) (fence : Nat) :
    (a.record n r (.waiting (patienceOf a.patience))).Fits due d fence := by
  refine ⟨ha, fun _ hl => ?_, rfl, ?_⟩
  · cases hm : a.mode with
    | exclusive => exact hm
    | shared => exact absurd hl (hline hm)
  · unfold patienceOf
    split
    · trivial
    · exact ⟨.inl hp.1, by omega⟩

end Records

end Sys2Proof.Machine
end

section
/-! PROOF. The operations of the lease engine keep its laws: the band rule, a record that ends, a grant, a wait, a
resource taken down, admission. -/

namespace Sys2Proof.Machine

/-! ## Reads that agree -/

section Reads

variable {e e' : Engine}

theorem run_of_resources (h : e'.resources = e.resources) (r : ResourceId) : e'.run r = e.run r := by
  rw [Engine.run, h]
  rfl

theorem defn_of_resources (h : e'.resources = e.resources) (r : ResourceId) : e'.defn r = e.defn r := by
  rw [Engine.defn, h]
  rfl

theorem profileOf_of_defn (hd : ∀ r, e'.defn r = e.defn r) (hp : e'.profiles = e.profiles) (r : ResourceId) :
    e'.profileOf r = e.profileOf r := by
  rw [Engine.profileOf, hd, hp]
  rfl

theorem claimsOn_of_record {k : SlotId} (h : e'.record k = e.record k) (r : ResourceId) :
    e'.claimsOn r k = e.claimsOn r k := by
  rw [Engine.claimsOn, h]
  rfl

/-- A slot without a live record on the resource claims nothing of it. -/
theorem claimsOn_none {r : ResourceId} {k : SlotId}
    (h : ∀ rec, e.record k = some rec → rec.isLive = true → rec.resource ≠ r) : e.claimsOn r k = none := by
  cases hc : e.claimsOn r k with
  | none => rfl
  | some c =>
    obtain ⟨rec, hk, hr, hl, -⟩ := claimsOn_some.mp hc
    exact absurd hr (h rec hk hl)

theorem claimsOn_of_held {k : SlotId} {rec : Record} (hk : e.record k = some rec) (hh : rec.isHeld = true) :
    e.claimsOn rec.resource k = some (true, rec.mode) := claimsOn_held.mpr ⟨rec, hk, rfl, hh, rfl⟩

theorem claimsOn_of_waiting {k : SlotId} {rec : Record} (hk : e.record k = some rec) (hw : rec.isWaiting = true) :
    e.claimsOn rec.resource k = some (false, rec.mode) := claimsOn_waiting.mpr ⟨rec, hk, rfl, hw, rfl⟩

end Reads

section Sound

variable {e : Engine} {due : Set SlotId} {loose unruled : Set ResourceId}

/-! ## Looser and stricter -/

/-- The laws look at records, resources and profiles alone. -/
theorem Engine.Sound.congr {e' : Engine} (h : e.Sound due loose unruled) (hk : ∀ k, e'.record k = e.record k)
    (hr : e'.resources = e.resources) (hp : e'.profiles = e.profiles) : e'.Sound due loose unruled := by
  have hrun := run_of_resources hr
  have hdefn := defn_of_resources hr
  have hprof := profileOf_of_defn hdefn hp
  have hclaims : ∀ r, e'.claimsOn r = e.claimsOn r := fun r => funext fun k => claimsOn_of_record (hk k) r
  refine ⟨fun p => by rw [hp]; exact h.profiles p, fun r => by rw [hdefn]; exact h.defns r, fun k rec hrec => ?_,
    fun j k x y g i hjk hj hk' => ?_, fun r => ?_, fun r => ?_, fun r hr' => ?_, fun r hr' => ?_⟩
  · rw [hdefn, hrun]
    exact h.records k rec (by rw [← hk, hrec])
  · exact h.fences j k x y g i hjk (by rw [← hk, hj]) (by rw [← hk, hk'])
  · rw [hrun, hdefn, hclaims]
    exact h.fits r
  · rw [hrun]
    exact h.bands r
  · rw [hrun, hprof]
    exact h.ruled r hr'
  · rw [hrun, hdefn, hclaims]
    exact h.settled r hr'

theorem Engine.Sound.weaken {due' : Set SlotId} {loose' unruled' : Set ResourceId} (h : e.Sound due loose unruled)
    (hd : due ⊆ due') (hl : loose ⊆ loose') (hu : unruled ⊆ unruled') : e.Sound due' loose' unruled' :=
  ⟨h.profiles, h.defns, fun k rec hk => (h.records k rec hk).imp fun hdue => hd hdue, h.fences, h.fits, h.bands,
    fun r hr => h.ruled r fun hm => hr (hu hm), fun r hr => h.settled r fun hm => hr (hl hm)⟩

theorem Engine.Sound.loosen {loose' : Set ResourceId} (h : e.Sound due loose unruled) (hl : loose ⊆ loose') :
    e.Sound due loose' unruled := h.weaken subset_rfl hl subset_rfl

theorem Engine.Sound.settle {r : ResourceId} (h : e.Sound due (insert r loose) unruled)
    (hs : (e.run r).Settled (e.defn r) (e.claimsOn r)) : e.Sound due loose unruled := by
  refine ⟨h.profiles, h.defns, h.records, h.fences, h.fits, h.bands, h.ruled, fun q hq => ?_⟩
  by_cases hqr : q = r
  · rwa [hqr]
  · exact h.settled q fun hm => (Set.mem_insert_iff.mp hm).elim hqr hq

theorem Engine.Sound.rule {r : ResourceId} (h : e.Sound due loose (insert r unruled))
    (hs : (e.run r).Banded (e.profileOf r)) : e.Sound due loose unruled := by
  refine ⟨h.profiles, h.defns, h.records, h.fences, h.fits, h.bands, fun q hq => ?_, h.settled⟩
  by_cases hqr : q = r
  · rwa [hqr]
  · exact h.ruled q fun hm => (Set.mem_insert_iff.mp hm).elim hqr hq

/-- No due record is live any more. -/
theorem Engine.Sound.clearDue (h : e.Sound due loose unruled)
    (hd : ∀ k rec, k ∈ due → e.record k = some rec → rec.isLive = false) : e.Sound ∅ loose unruled := by
  refine ⟨h.profiles, h.defns, fun k rec hk => ?_, h.fences, h.fits, h.bands, h.ruled, h.settled⟩
  by_cases hm : k ∈ due
  · exact (h.records k rec hk).of_dead (hd k rec hm hk)
  · exact (h.records k rec hk).imp fun hdue => absurd hdue hm

theorem Engine.Sound.profileOf_valid (h : e.Sound due loose unruled) (r : ResourceId) :
    (e.profileOf r).valid = true := h.profiles _

theorem Engine.Sound.capacity_pos (h : e.Sound due loose unruled) (r : ResourceId) : 1 ≤ (e.defn r).capacity := by
  have := h.defns r
  simp only [Definition.valid, Bool.and_eq_true, decide_eq_true_eq] at this
  exact this.1.1

theorem Engine.Sound.quarantine_le (h : e.Sound due loose unruled) (r : ResourceId) :
    (e.defn r).quarantine ≤ 255 := by
  have := h.defns r
  simp only [Definition.valid, Bool.and_eq_true, decide_eq_true_eq] at this
  exact this.1.2.2.2.1

/-! ## One slot and one resource change -/

/-- A change of the record in slot `k` and of the run record of resource `r`, `k` claiming nothing of another. -/
theorem Engine.Sound.change {e' : Engine} {k : SlotId} {r : ResourceId} (h : e.Sound due loose unruled)
    (hdefn : ∀ q, e'.defn q = e.defn q) (hprof : e'.profiles = e.profiles)
    (hothers : ∀ j, j ≠ k → e'.record j = e.record j) (hruns : ∀ q, q ≠ r → e'.run q = e.run q)
    (hold : ∀ rec, e.record k = some rec → rec.isLive = true → rec.resource = r)
    (hnew : ∀ rec, e'.record k = some rec → (rec.isLive = true → rec.resource = r) ∧
      rec.Fits (k ∈ due) (e.defn rec.resource) (e'.run rec.resource).fence)
    (hfence : (e.run r).fence ≤ (e'.run r).fence)
    (hdiffer : ∀ rec g, e'.record k = some rec → rec.standing = .held g → (e.run r).fence < g.fence)
    (hfits : (e'.run r).Fits (e.defn r) (Function.update (e.claimsOn r) k (e'.claimsOn r k)))
    (hband : (e'.run r).band ≤ 3 ∧ ((e'.run r).state = .offline → (e'.run r).band = 0)) :
    e'.Sound due (insert r loose) (insert r unruled) := by
  have hprofile := profileOf_of_defn hdefn hprof
  have hfences : ∀ q, (e.run q).fence ≤ (e'.run q).fence := fun q => by
    by_cases hq : q = r
    · rwa [hq]
    · rw [hruns q hq]
  have hclaims : ∀ q, q ≠ r → e'.claimsOn q = e.claimsOn q := fun q hq => funext fun j => by
    by_cases hj : j = k
    · subst hj
      rw [claimsOn_none fun rec hk hl heq => hq (heq.symm.trans ((hnew rec hk).1 hl)),
        claimsOn_none fun rec hk hl heq => hq (heq.symm.trans (hold rec hk hl))]
    · exact claimsOn_of_record (hothers j hj) q
  have hself : e'.claimsOn r = Function.update (e.claimsOn r) k (e'.claimsOn r k) := funext fun j => by
    by_cases hj : j = k
    · rw [hj, Function.update_self]
    · rw [Function.update_of_ne hj]
      exact claimsOn_of_record (hothers j hj) r
  have hheld : ∀ x g, e'.record k = some x → x.standing = .held g → ∀ j y i, j ≠ k → e'.record j = some y →
      y.standing = .held i → x.resource = y.resource → g.fence ≠ i.fence := by
    intro x g hx hg j y i hj hy hi hr
    have hxr := (hnew x hx).1 (isLive_of_isHeld (isHeld_of_standing hg))
    rw [hothers j hj] at hy
    have hle := ((h.records j y hy).held hi).1.fence.2
    rw [← hr, hxr] at hle
    have := hdiffer x g hx hg
    omega
  refine ⟨fun p => by rw [hprof]; exact h.profiles p, fun q => by rw [hdefn]; exact h.defns q, fun j rec hj => ?_,
    fun j i x y g g' hji hj hi hg hg' hr => ?_, fun q => ?_, fun q => ?_, fun q hq => ?_, fun q hq => ?_⟩
  · rw [hdefn]
    by_cases hjk : j = k
    · subst hjk
      exact (hnew rec hj).2
    · rw [hothers j hjk] at hj
      exact (h.records j rec hj).mono (hfences _)
  · by_cases hjk : j = k
    · subst hjk
      exact hheld x g hj hg i y g' (Ne.symm hji) hi hg' hr
    · by_cases hik : i = k
      · subst hik
        exact (hheld y g' hi hg' j x g hji hj hg hr.symm).symm
      · rw [hothers j hjk] at hj
        rw [hothers i hik] at hi
        exact h.fences j i x y g g' hji hj hi hg hg' hr
  · rw [hdefn]
    by_cases hq : q = r
    · rw [hq, hself]
      exact hfits
    · rw [hruns q hq, hclaims q hq]
      exact h.fits q
  · by_cases hq : q = r
    · rw [hq]
      exact hband
    · rw [hruns q hq]
      exact h.bands q
  · rw [Set.mem_insert_iff, not_or] at hq
    rw [hruns q hq.1, hprofile]
    exact h.ruled q hq.2
  · rw [Set.mem_insert_iff, not_or] at hq
    rw [hruns q hq.1, hdefn, hclaims q hq.1]
    exact h.settled q hq.2

/-- A change of one run record alone. -/
theorem Engine.Sound.setRun {r : ResourceId} {x : Run} (h : e.Sound due loose unruled)
    (hfence : (e.run r).fence ≤ x.fence) (hfits : x.Fits (e.defn r) (e.claimsOn r))
    (hband : x.band ≤ 3 ∧ (x.state = .offline → x.band = 0)) :
    (e.setRun r x).Sound due (insert r loose) (insert r unruled) := by
  have hrun : ∀ q, q ≠ r → (e.setRun r x).run q = e.run q := fun q hq => by
    rw [Engine.run_setRun, if_neg (Ne.symm hq)]
  have hclaims : ∀ q, (e.setRun r x).claimsOn q = e.claimsOn q := fun q => rfl
  refine ⟨h.profiles, fun q => by rw [Engine.defn_setRun]; exact h.defns q, fun k rec hk => ?_, h.fences, fun q => ?_,
    fun q => ?_, fun q hq => ?_, fun q hq => ?_⟩
  · rw [Engine.defn_setRun]
    refine (h.records k rec hk).mono ?_
    rw [Engine.run_setRun]
    split
    · rename_i hr
      rwa [← hr]
    · exact le_rfl
  · rw [Engine.defn_setRun, hclaims]
    by_cases hq : q = r
    · rw [hq, Engine.run_setRun_self]
      exact hfits
    · rw [hrun q hq]
      exact h.fits q
  · by_cases hq : q = r
    · rw [hq, Engine.run_setRun_self]
      exact hband
    · rw [hrun q hq]
      exact h.bands q
  · rw [Set.mem_insert_iff, not_or] at hq
    rw [hrun q hq.1, Engine.profileOf_setRun]
    exact h.ruled q hq.2
  · rw [Set.mem_insert_iff, not_or] at hq
    rw [hrun q hq.1, Engine.defn_setRun, hclaims]
    exact h.settled q hq.2

/-- A change of a resource's state to another row of R29 that fits. -/
theorem Engine.Sound.setState {r : ResourceId} {st : ResourceState} (h : e.Sound due loose ∅)
    (hoff : (e.run r).state ≠ .offline) (hst : st ≠ .offline)
    (hs : Run.Stands (e.defn r) (e.claimsOn r) { e.run r with state := st }) :
    (e.setState r st).Sound due (insert r loose) ∅ := by
  refine Engine.Sound.rule (h.setRun le_rfl ((h.fits r).setState hoff hs) ⟨(h.bands r).1, fun ho => absurd ho hst⟩) ?_
  rw [Engine.setState, Engine.run_setRun_self, Engine.profileOf_setRun]
  exact (h.ruled r (Set.notMem_empty r)).congr rfl rfl (iff_of_false hst hoff)

/-! ## Records that change in their slots -/

/-- A record has changed nothing of what it claims, nor its fence. -/
structure Record.Touches (rec rec' : Record) : Prop where
  claim : ∀ r, rec'.claimOn r = rec.claimOn r
  fence : ∀ g, rec'.standing = .held g → ∃ h, rec.standing = .held h ∧ h.fence = g.fence
  resource : rec'.resource = rec.resource

theorem Record.Touches.refl (rec : Record) : rec.Touches rec := ⟨fun _ => rfl, fun g hg => ⟨g, hg, rfl⟩, rfl⟩

/-- A held record whose held fields change, but for the fence. -/
theorem touches_of_held {rec : Record} {h h' : Held} (hs : rec.standing = .held h) (hf : h'.fence = h.fence)
    (asked : Nat) (u : Unseen) : rec.Touches { rec with asked := asked, unseen := u, standing := .held h' } := by
  refine ⟨fun r => ?_, fun g hg => ⟨h, hs, ?_⟩, rfl⟩
  · simp only [Record.claimOn, Record.isLive, Record.isHeld, hs]
    rfl
  · cases hg
    exact hf.symm

/-- Records that change in their slots without a change of claim or fence. -/
theorem Engine.Sound.touch {e' : Engine} {due' : Set SlotId} (h : e.Sound due loose unruled)
    (hr : e'.resources = e.resources) (hp : e'.profiles = e.profiles)
    (ht : ∀ k, Option.Rel Record.Touches (e.record k) (e'.record k))
    (hf : ∀ k rec', e'.record k = some rec' → rec'.Fits (k ∈ due') (e.defn rec'.resource) (e.run rec'.resource).fence) :
    e'.Sound due' loose unruled := by
  have hrun := run_of_resources hr
  have hdefn := defn_of_resources hr
  have hback : ∀ {k x'}, e'.record k = some x' → ∃ x, e.record k = some x ∧ x.Touches x' := by
    intro k x' hk
    have hrel := ht k
    rw [hk] at hrel
    generalize hx : e.record k = o at hrel
    cases hrel with
    | some hxx => exact ⟨_, rfl, hxx⟩
  have hclaims : ∀ r, e'.claimsOn r = e.claimsOn r := fun r => funext fun k => by
    have hrel := ht k
    unfold Engine.claimsOn
    generalize e.record k = o, e'.record k = o' at hrel
    cases hrel with
    | none => rfl
    | some hxx => exact hxx.claim r
  refine ⟨fun p => by rw [hp]; exact h.profiles p, fun r => by rw [hdefn]; exact h.defns r, fun k rec hrec => ?_,
    fun j k x' y' g' i' hjk hj hk hx hy hres => ?_, fun r => ?_, fun r => ?_, fun r hr' => ?_, fun r hr' => ?_⟩
  · rw [hdefn, hrun]
    exact hf k rec hrec
  · obtain ⟨x, hj, hxx⟩ := hback hj
    obtain ⟨y, hk, hyy⟩ := hback hk
    obtain ⟨g, hg, hgf⟩ := hxx.fence g' hx
    obtain ⟨i, hi, hif⟩ := hyy.fence i' hy
    rw [← hgf, ← hif]
    exact h.fences j k x y g i hjk hj hk hg hi (by rw [← hxx.resource, hres, hyy.resource])
  · rw [hrun, hdefn, hclaims]
    exact h.fits r
  · rw [hrun]
    exact h.bands r
  · rw [hrun, profileOf_of_defn hdefn hp]
    exact h.ruled r hr'
  · rw [hrun, hdefn, hclaims]
    exact h.settled r hr'

theorem Engine.Sound.mapRecords {f : SlotId → Record → Record} {due' : Set SlotId} (h : e.Sound due loose unruled)
    (hf : ∀ k rec, e.record k = some rec → rec.Touches (f k rec) ∧
      (f k rec).Fits (k ∈ due') (e.defn rec.resource) (e.run rec.resource).fence) :
    (e.mapRecords f).Sound due' loose unruled := by
  refine h.touch rfl rfl (fun k => ?_) fun k rec' hk => ?_
  · rw [Engine.record_mapRecords]
    cases hk : e.record k with
    | none => exact .none
    | some rec => exact .some (hf k rec hk).1
  · rw [Engine.record_mapRecords, Option.map_eq_some_iff] at hk
    obtain ⟨rec, hk, rfl⟩ := hk
    obtain ⟨ht, hfits⟩ := hf k rec hk
    rwa [ht.resource]

theorem Engine.Sound.putRecord {k : SlotId} {rec rec' : Record} (h : e.Sound due loose unruled)
    (hk : e.record k = some rec) (ht : rec.Touches rec')
    (hf : rec'.Fits (k ∈ due) (e.defn rec.resource) (e.run rec.resource).fence) :
    (e.putRecord k rec').Sound due loose unruled := by
  refine h.touch rfl rfl (fun j => ?_) fun j x hj => ?_
  · rw [Engine.record_putRecord]
    split
    · rename_i hkj
      rw [← hkj, hk]
      exact .some ht
    · exact optionRel_refl .refl _
  · rw [Engine.record_putRecord] at hj
    split at hj
    · rename_i hkj
      cases hj
      rw [← hkj, ht.resource]
      exact hf
    · exact h.records j x hj

/-! ## The band rule (R90, R94) -/

theorem squeeze_touches (lead c : Nat) (rec : Record) : rec.Touches (rec.squeeze lead c) := by
  unfold Record.squeeze
  split
  · rename_i h hs
    split
    · refine touches_of_held hs ?_ rec.asked _
      rfl
    · exact .refl rec
  · exact .refl rec

theorem Engine.Sound.squeeze (h : e.Sound due loose unruled) (r : ResourceId) :
    (e.squeeze r).Sound due loose unruled := by
  refine h.mapRecords fun k rec hk => ?_
  split
  · rename_i hr
    rw [← hr]
    exact ⟨squeeze_touches _ _ rec, (h.records k rec hk).squeeze (ceiling_pos (h.profileOf_valid _) _)⟩
  · exact ⟨.refl rec, h.records k rec hk⟩

theorem Engine.Sound.setBand {r : ResourceId} {b : Nat} (h : e.Sound due loose unruled)
    (hoff : (e.run r).state ≠ .offline) (hb : b ≤ 3) : (e.setBand r b).Sound due loose (insert r unruled) := by
  have hs := h.setRun (r := r) (x := { e.run r with band := b }) le_rfl ((h.fits r).setBand b)
    ⟨hb, fun ho => absurd ho hoff⟩
  by_cases hr : r ∈ loose
  · rwa [Set.insert_eq_of_mem hr] at hs
  · refine hs.settle ?_
    rw [Engine.run_setRun_self, Engine.defn_setRun]
    exact h.settled r hr

theorem bandRule_eq (e : Engine) (r : ResourceId) :
    e.bandRule r =
      let b := ruledBand (e.profileOf r) (e.run r).queue.length (e.run r).band
      if (e.run r).band < bandRise (e.profileOf r) (e.run r).queue.length 3 (e.run r).band then
        (e.setBand r b).squeeze r
      else e.setBand r b := by
  unfold Engine.bandRule ruledBand
  simp only
  split <;> rfl

/-- The band rule makes the law of R89 true of a resource that is not OFFLINE. -/
theorem Engine.Sound.bandRule {r : ResourceId} (h : e.Sound due loose (insert r unruled))
    (hoff : (e.run r).state ≠ .offline) : (e.bandRule r).Sound due loose unruled := by
  have hspec := ruledBand_spec (e.profileOf r) (e.run r).queue.length (h.bands r).1
  have hset := h.setBand hoff hspec.1
  rw [Set.insert_idem] at hset
  have hset := hset.rule (by
    rw [Engine.setBand, Engine.run_setRun_self, Engine.profileOf_setRun]
    exact ⟨hspec.1, by rw [if_neg hoff]; exact hspec.2⟩)
  rw [bandRule_eq]
  simp only
  split
  · exact hset.squeeze r
  · exact hset

theorem bandRule_resources (e : Engine) (r : ResourceId) : (e.bandRule r).resources =
    (e.setBand r (ruledBand (e.profileOf r) (e.run r).queue.length (e.run r).band)).resources := by
  rw [bandRule_eq]
  simp only
  split <;> rfl

/-- What the band rule makes of a record looks at resources and profiles alone. -/
theorem bandRule_record_congr {e e' : Engine} (hr : e'.resources = e.resources) (hp : e'.profiles = e.profiles)
    (r : ResourceId) {k : SlotId} (hk : e'.record k = e.record k) :
    (e'.bandRule r).record k = (e.bandRule r).record k := by
  have hrun := run_of_resources hr
  have hdefn := defn_of_resources hr
  have hprof := profileOf_of_defn hdefn hp
  rw [bandRule_eq, bandRule_eq]
  simp only [hrun, hprof]
  split
  · simp only [Engine.squeeze, Engine.setBand, Engine.record_mapRecords, Engine.record_setRun, hk, Engine.defn_setRun,
      Engine.profileOf_setRun, Engine.run_setRun_self, hdefn, hprof]
  · exact hk

theorem bandRule_resources_congr {e e' : Engine} (hr : e'.resources = e.resources) (hp : e'.profiles = e.profiles)
    (r : ResourceId) : (e'.bandRule r).resources = (e.bandRule r).resources := by
  have hrun := run_of_resources hr
  have hprof := profileOf_of_defn (defn_of_resources hr) hp
  rw [bandRule_resources, bandRule_resources, hprof, Engine.setBand, Engine.setBand, hrun]
  simp only [Engine.setRun, hr]

/-! ## A held record ends (R43, R101) -/

theorem departedState_offline {m : Mode} {st : ResourceState} {holders : Nat} :
    departedState m st holders = .offline ↔ st = .offline := by
  unfold departedState
  split
  · simp
  · split <;> simp
  · rfl

/-- The held record in slot `k` has ended: the slot holds a tombstone or nothing, and its resource is as R43 leaves it,
or in QUARANTINE as R101 does. -/
theorem Engine.Sound.retire_held {e' : Engine} {k : SlotId} {rec : Record} (h : e.Sound due loose ∅)
    (hk : e.record k = some rec) (hh : rec.isHeld = true)
    (hdefn : ∀ q, e'.defn q = e.defn q) (hprof : e'.profiles = e.profiles)
    (hothers : ∀ j, j ≠ k → e'.record j = e.record j) (hruns : ∀ q, q ≠ rec.resource → e'.run q = e.run q)
    (hdead : ∀ x, e'.record k = some x → x.isLive = false ∧
      x.Fits (k ∈ due) (e.defn x.resource) (e'.run x.resource).fence)
    (hrun : e'.run rec.resource = (e.run rec.resource).departed rec.mode ∨
      ∃ q, rec.mode = .exclusive ∧ 1 ≤ q ∧ q ≤ 255 ∧
        e'.run rec.resource = { (e.run rec.resource).departed rec.mode with state := .quarantine q }) :
    e'.Sound due (insert rec.resource loose) ∅ := by
  have hclaim := claimsOn_of_held hk hh
  have hfit := h.fits rec.resource
  have hoff := hfit.not_offline_of_holder hclaim
  have hnone : e'.claimsOn rec.resource k = none := claimsOn_none fun x hx hl => by
    rw [(hdead x hx).1] at hl
    exact absurd hl nofun
  have hrest : (e'.run rec.resource).Fits (e.defn rec.resource)
        (Function.update (e.claimsOn rec.resource) k (e'.claimsOn rec.resource k)) ∧
      (e'.run rec.resource).fence = (e.run rec.resource).fence ∧
      (e'.run rec.resource).band = (e.run rec.resource).band ∧
      (e'.run rec.resource).queue = (e.run rec.resource).queue ∧ (e'.run rec.resource).state ≠ .offline := by
    rw [hnone]
    rcases hrun with hrun | ⟨q, hm, h1, h2, hrun⟩ <;> rw [hrun]
    · exact ⟨hfit.depart hclaim, rfl, rfl, rfl, fun ho => hoff (departedState_offline.mp ho)⟩
    · rw [hm] at hclaim ⊢
      exact ⟨hfit.rest hclaim h1 h2, rfl, rfl, rfl, nofun⟩
  obtain ⟨hfits, hfence, hband, hqueue, hstate⟩ := hrest
  have hnotlive : ∀ x, e'.record k = some x → x.isLive = true → False := fun x hx hl => by
    rw [(hdead x hx).1] at hl
    exact absurd hl nofun
  refine Engine.Sound.rule (h.change hdefn hprof hothers hruns (fun x hx _ => ?_)
    (fun x hx => ⟨fun hl => (hnotlive x hx hl).elim, (hdead x hx).2⟩) hfence.ge
    (fun x g hx hg => (hnotlive x hx (isLive_of_isHeld (isHeld_of_standing hg))).elim) hfits
    ⟨by rw [hband]; exact (h.bands _).1, fun ho => absurd ho hstate⟩) ?_
  · rw [hk, Option.some.injEq] at hx
    rw [hx]
  · rw [profileOf_of_defn hdefn hprof]
    exact (h.ruled _ (Set.notMem_empty _)).congr hband hqueue (iff_of_false hstate hoff)

/-! ## A waiting record ends (R45) -/

/-- Slot `k` with `o` in place of its record. -/
def Engine.withRecord (e : Engine) (k : SlotId) (o : Option Record) : Engine := e.setSlot k { e.slot k with record := o }

theorem record_withRecord (e : Engine) (k j : SlotId) (o : Option Record) :
    (e.withRecord k o).record j = if k = j then o else e.record j := Engine.record_setSlot e k j _

theorem run_setQueue_self (e : Engine) (r : ResourceId) (q : List SlotId) :
    (e.setQueue r q).run r = { e.run r with queue := q } := Engine.run_setRun_self e r _

theorem run_setQueue_ne (e : Engine) {r s : ResourceId} (q : List SlotId) (h : s ≠ r) :
    (e.setQueue r q).run s = e.run s := (Engine.run_setRun e r s _).trans (if_neg (Ne.symm h))

theorem fence_setQueue (e : Engine) (r s : ResourceId) (q : List SlotId) :
    ((e.setQueue r q).run s).fence = (e.run s).fence := by
  by_cases h : s = r
  · rw [h, run_setQueue_self]
  · rw [run_setQueue_ne e q h]

/-- Slot `k` with `o` in place of a WAITING record, which has left the queue of `r`. -/
def Engine.withdrawn (e : Engine) (r : ResourceId) (k : SlotId) (o : Option Record) : Engine :=
  (e.setQueue r ((e.run r).queue.erase k)).withRecord k o

theorem record_withdrawn (e : Engine) (r : ResourceId) (k j : SlotId) (o : Option Record) :
    (e.withdrawn r k o).record j = if k = j then o else e.record j :=
  record_withRecord (e.setQueue r ((e.run r).queue.erase k)) k j o

theorem run_withdrawn_self (e : Engine) (r : ResourceId) (k : SlotId) (o : Option Record) :
    (e.withdrawn r k o).run r = { e.run r with queue := (e.run r).queue.erase k } := run_setQueue_self e r _

/-- Where a waiter has withdrawn, the band rule has still to run. -/
theorem Engine.Sound.withdrawn {k : SlotId} {rec : Record} {o : Option Record} (h : e.Sound due loose ∅)
    (hk : e.record k = some rec) (hw : rec.isWaiting = true)
    (hdead : ∀ x, o = some x → x.isLive = false ∧ x.Fits (k ∈ due) (e.defn x.resource) (e.run x.resource).fence) :
    (e.withdrawn rec.resource k o).Sound due (insert rec.resource loose) (insert rec.resource ∅) := by
  have hself := record_withdrawn e rec.resource k k o
  have hrun := run_withdrawn_self e rec.resource k o
  have hfence : ∀ r, ((e.withdrawn rec.resource k o).run r).fence = (e.run r).fence := fun r =>
    fence_setQueue e rec.resource r _
  rw [if_pos rfl] at hself
  have hnotlive : ∀ x, o = some x → x.isLive = true → False := fun x hx hl => by
    rw [(hdead x hx).1] at hl
    exact absurd hl nofun
  refine h.change (k := k) (Engine.defn_setRun e _ · _) rfl (fun j hj => by rw [record_withdrawn, if_neg (Ne.symm hj)])
    (fun r hr => run_setQueue_ne e _ hr) (fun x hx _ => ?_) (fun x hx => ?_) (hfence _).ge (fun x g hx hg => ?_) ?_ ?_
  · rw [hk, Option.some.injEq] at hx
    rw [hx]
  · rw [hself] at hx
    rw [hfence]
    exact ⟨fun hl => (hnotlive x hx hl).elim, (hdead x hx).2⟩
  · rw [hself] at hx
    exact (hnotlive x hx (isLive_of_isHeld (isHeld_of_standing hg))).elim
  · rw [claimsOn_none fun x hx hl => (hnotlive x (hself ▸ hx) hl).elim, hrun]
    exact (h.fits rec.resource).unqueue (claimsOn_of_waiting hk hw)
  · rw [hrun]
    exact h.bands rec.resource

/-- The band rule leaves a slot without a held record as it is (R94). -/
theorem bandRule_record_of_dead {k : SlotId} (h : ∀ rec, e.record k = some rec → rec.isLive = false) (r : ResourceId) :
    (e.bandRule r).record k = e.record k := by
  cases hk : e.record k with
  | none =>
    have hrel := (inPlace_bandRule e r).records k
    rw [hk] at hrel
    generalize (e.bandRule r).record k = o at hrel
    cases hrel
    rfl
  | some rec =>
    refine bandRule_record_of_not_held hk (Bool.eq_false_iff.mpr fun hh => ?_)
    exact Bool.eq_false_iff.mp (h rec hk) (isLive_of_isHeld hh)

/-- The WAITING record in slot `k` has left its queue, and the slot holds a tombstone or nothing. -/
theorem Engine.Sound.retire_waiting {e' : Engine} {k : SlotId} {rec : Record} (h : e.Sound due loose ∅)
    (hk : e.record k = some rec) (hw : rec.isWaiting = true)
    (hres : e'.resources = (e.leaveQueue rec.resource k).resources) (hprof : e'.profiles = e.profiles)
    (hothers : ∀ j, j ≠ k → e'.record j = (e.leaveQueue rec.resource k).record j)
    (hdead : ∀ x, e'.record k = some x → x.isLive = false ∧
      x.Fits (k ∈ due) (e.defn x.resource) (e.run x.resource).fence) :
    e'.Sound due (insert rec.resource loose) ∅ := by
  have hoff : ((e.withdrawn rec.resource k (e'.record k)).run rec.resource).state ≠ .offline := by
    rw [run_withdrawn_self]
    exact (h.fits rec.resource).not_offline_of_waiter (claimsOn_of_waiting hk hw)
  have hrecord := fun j => record_withdrawn e rec.resource k j (e'.record k)
  refine ((h.withdrawn hk hw hdead).bandRule hoff).congr (fun j => ?_) (hres.trans ?_) ?_
  · by_cases hj : j = k
    · subst hj
      rw [bandRule_record_of_dead (fun x hx => ?_), hrecord, if_pos rfl]
      rw [hrecord, if_pos rfl] at hx
      exact (hdead x hx).1
    · rw [hothers j hj]
      exact (bandRule_record_congr (e := e.setQueue rec.resource ((e.run rec.resource).queue.erase k))
        (e' := e.withdrawn rec.resource k (e'.record k)) rfl rfl rec.resource
        ((hrecord j).trans (if_neg (Ne.symm hj)))).symm
  · exact (bandRule_resources_congr (e := e.setQueue rec.resource ((e.run rec.resource).queue.erase k))
      (e' := e.withdrawn rec.resource k (e'.record k)) rfl rfl rec.resource).symm
  · rw [hprof, bandRule_profiles]
    rfl

/-- A tombstone has gone from slot `k`, or a slot's generation or another's session has changed. -/
theorem Engine.Sound.retire_dead {e' : Engine} {k : SlotId} (h : e.Sound due loose ∅)
    (hold : ∀ rec, e.record k = some rec → rec.isLive = false) (hnew : e'.record k = none)
    (hothers : ∀ j, j ≠ k → e'.record j = e.record j) (hres : e'.resources = e.resources)
    (hprof : e'.profiles = e.profiles) : e'.Sound due loose ∅ := by
  have hrun := run_of_resources hres
  have hdefn := defn_of_resources hres
  have hclaims : ∀ r, e'.claimsOn r = e.claimsOn r := fun r => funext fun j => by
    by_cases hj : j = k
    · subst hj
      rw [claimsOn_none fun rec hk hl => by rw [hnew] at hk; exact absurd hk nofun,
        claimsOn_none fun rec hk hl => by rw [hold rec hk] at hl; exact absurd hl nofun]
    · exact claimsOn_of_record (hothers j hj) r
  have hback : ∀ {j rec}, e'.record j = some rec → e.record j = some rec := by
    intro j rec hj
    have hjk : j ≠ k := by
      rintro rfl
      rw [hnew] at hj
      exact absurd hj nofun
    rwa [hothers j hjk] at hj
  refine ⟨fun p => by rw [hprof]; exact h.profiles p, fun r => by rw [hdefn]; exact h.defns r, fun j rec hj => ?_,
    fun j i x y g g' hji hj hi => h.fences j i x y g g' hji (hback hj) (hback hi), fun r => ?_, fun r => ?_,
    fun r hr => ?_, fun r hr => ?_⟩
  · rw [hdefn, hrun]
    exact h.records j rec (hback hj)
  · rw [hrun, hdefn, hclaims]
    exact h.fits r
  · rw [hrun]
    exact h.bands r
  · rw [hrun, profileOf_of_defn hdefn hprof]
    exact h.ruled r hr
  · rw [hrun, hdefn, hclaims]
    exact h.settled r hr

/-! ## A resource taken down (R33, R112) -/

theorem ended_dead (rec : Record) : ((rec.revoke .offline).lapse .offline).isLive = false := by
  rw [Record.ended_eq, Record.isLive]
  cases hs : rec.standing <;> simp [hs, Standing.isLive, Standing.isWaiting, Standing.isHeld]

theorem ended_fits {due : Prop} {d : Definition} {fence : Nat} {rec : Record} (hr : rec.Fits due d fence) :
    ((rec.revoke .offline).lapse .offline).Fits due d fence := by
  cases hs : rec.standing with
  | waiting p =>
    have hrevoke : rec.revoke .offline = rec := by simp only [Record.revoke, hs]
    rw [hrevoke]
    exact lapse_fits hr hs (.inr (.inr rfl)) due
  | held h =>
    have hlapse : (rec.revoke .offline).lapse .offline = rec.revoke .offline := by
      simp only [Record.revoke, hs, Record.lapse]
    rw [hlapse]
    exact revoke_fits hr hs (.inr (.inr rfl)) due
  | revoked f c =>
    have hsame : (rec.revoke .offline).lapse .offline = rec := by simp only [Record.revoke, hs, Record.lapse]
    rwa [hsame]
  | lapsed c =>
    have hsame : (rec.revoke .offline).lapse .offline = rec := by simp only [Record.revoke, hs, Record.lapse]
    rwa [hsame]

/-- Every live record on `r` has ended with cause OFFLINE, and `r` is OFFLINE. -/
theorem Engine.Sound.down {e' : Engine} {r : ResourceId} (h : e.Sound due (insert r loose) ∅)
    (hdefn : ∀ q, e'.defn q = e.defn q) (hprof : e'.profiles = e.profiles)
    (hrecord : ∀ k, e'.record k = (e.record k).map fun rec =>
      if rec.resource = r then (rec.revoke .offline).lapse .offline else rec)
    (hruns : ∀ q, q ≠ r → e'.run q = e.run q) (hstate : (e'.run r).state = .offline) (hholders : (e'.run r).holders = 0)
    (hband : (e'.run r).band = 0) (hqueue : (e'.run r).queue = []) (hfence : (e'.run r).fence = (e.run r).fence) :
    e'.Sound due loose ∅ := by
  have hfences : ∀ q, (e'.run q).fence = (e.run q).fence := fun q => by
    by_cases hq : q = r
    · rwa [hq]
    · rw [hruns q hq]
  have hback : ∀ {k x'}, e'.record k = some x' → ∃ x, e.record k = some x ∧
      ((x.resource = r ∧ x' = (x.revoke .offline).lapse .offline) ∨ (x.resource ≠ r ∧ x' = x)) := by
    intro k x' hk
    rw [hrecord, Option.map_eq_some_iff] at hk
    obtain ⟨x, hx, rfl⟩ := hk
    refine ⟨x, hx, ?_⟩
    by_cases hr : x.resource = r
    · exact .inl ⟨hr, if_pos hr⟩
    · exact .inr ⟨hr, if_neg hr⟩
  have hended : ∀ x : Record, ((x.revoke .offline).lapse .offline).resource = x.resource := fun x =>
    ((revoke_persists .offline x).trans (lapse_persists .offline _)).claim.2.1
  have hnone : ∀ k, e'.claimsOn r k = none := fun k => claimsOn_none fun x' hx' hl hr => by
    obtain ⟨x, -, ⟨-, rfl⟩ | ⟨hne, rfl⟩⟩ := hback hx'
    · rw [ended_dead] at hl
      exact absurd hl nofun
    · exact hne hr
  have hclaims : ∀ q, q ≠ r → e'.claimsOn q = e.claimsOn q := fun q hq => funext fun k => by
    rw [Engine.claimsOn, Engine.claimsOn, hrecord]
    cases e.record k with
    | none => rfl
    | some x =>
      by_cases hr : x.resource = r
      · have h1 : ¬ (x.resource = q ∧ x.isLive = true) := fun hx => hq (hx.1.symm.trans hr)
        have h2 : ¬ (x.resource = q) := fun hx => hq (hx.symm.trans hr)
        simp [hr, Record.claimOn, hended, Ne.symm hq]
      · simp [hr]
  refine ⟨fun p => by rw [hprof]; exact h.profiles p, fun q => by rw [hdefn]; exact h.defns q, fun k x' hk => ?_,
    fun j k x' y' g i hjk hj hk hg hi hres => ?_, fun q => ?_, fun q => ?_, fun q _ => ?_, fun q hq => ?_⟩
  · rw [hdefn, hfences]
    obtain ⟨x, hx, ⟨-, rfl⟩ | ⟨-, rfl⟩⟩ := hback hk
    · rw [hended]
      exact ended_fits (h.records k x hx)
    · exact h.records k _ hx
  · have hlive : ∀ {z z' : Record} {a : Held}, ((z.resource = r ∧ z' = (z.revoke .offline).lapse .offline) ∨
        (z.resource ≠ r ∧ z' = z)) → z'.standing = .held a → z' = z := by
      rintro z z' a (⟨-, rfl⟩ | ⟨-, rfl⟩) ha
      · have hdead := ended_dead z
        rw [isLive_of_isHeld (isHeld_of_standing ha)] at hdead
        exact absurd hdead nofun
      · rfl
    obtain ⟨x, hx, hxx⟩ := hback hj
    obtain ⟨y, hy, hyy⟩ := hback hk
    obtain rfl := hlive hxx hg
    obtain rfl := hlive hyy hi
    exact h.fences j k _ _ g i hjk hx hy hg hi hres
  · by_cases hq : q = r
    · rw [hq]
      exact Run.fits_offline hstate hholders hqueue (by rw [hfence]; exact (h.fits r).fence) hnone
    · rw [hruns q hq, hdefn, hclaims q hq]
      exact h.fits q
  · by_cases hq : q = r
    · rw [hq, hband]
      exact ⟨Nat.zero_le _, fun _ => rfl⟩
    · rw [hruns q hq]
      exact h.bands q
  · rw [profileOf_of_defn hdefn hprof]
    by_cases hq : q = r
    · rw [hq]
      exact banded_zero (h.profileOf_valid r) hband hqueue
    · rw [hruns q hq]
      exact h.ruled q (Set.notMem_empty q)
  · by_cases hqr : q = r
    · rw [hqr]
      simp only [Run.Settled, hstate]
    · rw [hruns q hqr, hdefn, hclaims q hqr]
      exact h.settled q fun hm => (Set.mem_insert_iff.mp hm).elim hqr hq

theorem Engine.Sound.takeDown {r : ResourceId} (h : e.Sound due (insert r loose) ∅) :
    (e.takeDown r).Sound due loose ∅ := by
  refine h.down (fun q => Engine.defn_setRun _ r q _) rfl (fun k => Engine.record_mapRecords e _ k) (fun q hq => ?_)
    ?_ ?_ ?_ ?_ ?_
  · rw [Engine.takeDown, Engine.run_setRun, if_neg (Ne.symm hq)]
    rfl
  all_goals
    rw [Engine.takeDown, Engine.run_setRun_self]
    rfl

theorem Engine.Sound.exhaust {r : ResourceId} (h : e.Sound due (insert r loose) ∅) :
    (e.exhaust r).Sound due loose ∅ := by
  have hrun : ∀ q, (e.exhaust r).run q = (e.downed r true).run q := fun q => by rw [exhaust_eq]; rfl
  refine h.down (fun q => ?_) ?_ (fun k => ?_) (fun q hq => ?_) ?_ ?_ ?_ ?_ ?_
  · rw [exhaust_eq]
    exact Engine.defn_setRun _ r q _
  · rw [exhaust_eq]
    rfl
  · rw [exhaust_eq]
    refine (Engine.record_mapRecords e _ k).trans ?_
    simp only [Record.ended_eq] <;> rfl
  · rw [hrun, Engine.downed, Engine.run_setRun, if_neg (Ne.symm hq)]
    rfl
  all_goals
    rw [hrun, Engine.downed, Engine.run_setRun_self]

end Sound

end Sys2Proof.Machine
end

section
/-! PROOF. Admission and ACQUIRE keep the laws of the lease engine, and admission sees to what is left to it. -/

namespace Sys2Proof.Machine

section Sound

variable {e : Engine} {due : Set SlotId} {loose : Set ResourceId}

/-! ## A grant (R42, R54, R58) -/

theorem grantedState_not_offline (m : Mode) : m.grantedState ≠ .offline := by
  cases m <;> nofun

/-- A held record of mode `m`, under the raised fence counter, has been put into the FREE slot `k`. -/
theorem Engine.Sound.granted {e' : Engine} {k : SlotId} {rec : Record} {g : Held} (h : e.Sound due loose ∅)
    (hfree : e.record k = none) (hk : e'.record k = some rec) (hg : rec.standing = .held g)
    (hfenceOf : g.fence = (e.run rec.resource).fence + 1)
    (hdefn : ∀ q, e'.defn q = e.defn q) (hprof : e'.profiles = e.profiles)
    (hothers : ∀ j, j ≠ k → e'.record j = e.record j) (hruns : ∀ q, q ≠ rec.resource → e'.run q = e.run q)
    (hrun : e'.run rec.resource = (e.run rec.resource).joined rec.mode)
    (hfit : rec.Fits (k ∈ due) (e.defn rec.resource) ((e.run rec.resource).fence + 1))
    (hoff : (e.run rec.resource).state ≠ .offline)
    (hadmits : (e.run rec.resource).Admits (e.defn rec.resource) (e.claimsOn rec.resource) rec.mode)
    (hroom : (e.run rec.resource).fence < Config.fenceMax) :
    e'.Sound due (insert rec.resource loose) ∅ := by
  have hnone : e.claimsOn rec.resource k = none := claimsOn_none fun x hx => by
    rw [hfree] at hx
    exact absurd hx nofun
  have hstate : (e'.run rec.resource).state ≠ .offline := by
    rw [hrun]
    exact grantedState_not_offline _
  refine Engine.Sound.rule (h.change hdefn hprof hothers hruns (fun x hx => ?_) (fun x hx => ?_) ?_
    (fun x a hx ha => ?_) ?_ ⟨by rw [hrun]; exact (h.bands _).1, fun ho => absurd ho hstate⟩) ?_
  · rw [hfree] at hx
    exact absurd hx nofun
  · rw [hk, Option.some.injEq] at hx
    subst hx
    rw [hrun]
    exact ⟨fun _ => rfl, hfit⟩
  · rw [hrun]
    exact Nat.le_succ _
  · rw [hk, Option.some.injEq] at hx
    subst hx
    rw [hg, Standing.held.injEq] at ha
    subst ha
    omega
  · rw [claimsOn_of_held hk (isHeld_of_standing hg), hrun]
    exact (h.fits _).join hnone hoff hadmits hroom
  · rw [profileOf_of_defn hdefn hprof, hrun]
    exact (h.ruled _ (Set.notMem_empty _)).congr rfl rfl (iff_of_false (grantedState_not_offline _) hoff)

/-! ## Admission (R57, R58) -/

/-- Records that keep their claims in their slots keep every claim on a resource. -/
theorem claimsOn_of_touches {e' : Engine} (h : ∀ k, Option.Rel Record.Touches (e.record k) (e'.record k))
    (r : ResourceId) : e'.claimsOn r = e.claimsOn r := funext fun k => by
  have hrel := h k
  unfold Engine.claimsOn
  generalize e.record k = x, e'.record k = y at hrel
  cases hrel with
  | none => rfl
  | some hxy => exact hxy.claim r

/-- The band rule changes no claim (R94). -/
theorem claimsOn_bandRule (e : Engine) (r q : ResourceId) : (e.bandRule r).claimsOn q = e.claimsOn q := by
  refine claimsOn_of_touches (fun k => ?_) q
  rw [bandRule_eq]
  simp only
  split
  · rw [Engine.squeeze, Engine.record_mapRecords, Engine.setBand, Engine.record_setRun]
    cases e.record k with
    | none => exact .none
    | some rec =>
      refine .some ?_
      simp only
      split
      · exact squeeze_touches _ _ rec
      · exact .refl rec
  · exact optionRel_refl .refl _

theorem run_bandRule_self (e : Engine) (r : ResourceId) : (e.bandRule r).run r =
    { e.run r with band := ruledBand (e.profileOf r) (e.run r).queue.length (e.run r).band } := by
  rw [run_of_resources (bandRule_resources e r), Engine.setBand, Engine.run_setRun_self]

/-- The run record that a waiter of `r` leaves behind, before it is granted. -/
theorem run_leaveQueue (e : Engine) (r : ResourceId) (k : SlotId) :
    (e.leaveQueue r k).run r =
      { e.run r with
        queue := (e.run r).queue.erase k
        band := ruledBand (e.profileOf r) ((e.run r).queue.erase k).length (e.run r).band } := by
  rw [Engine.leaveQueue, run_bandRule_self, run_setQueue_self, Engine.setQueue, Engine.profileOf_setRun]

@[simp] theorem defn_leaveQueue (e : Engine) (r q : ResourceId) (k : SlotId) :
    (e.leaveQueue r k).defn q = e.defn q := by
  rw [Engine.leaveQueue, bandRule_defn, Engine.setQueue, Engine.defn_setRun]

@[simp] theorem profiles_leaveQueue (e : Engine) (r : ResourceId) (k : SlotId) :
    (e.leaveQueue r k).profiles = e.profiles := by
  rw [Engine.leaveQueue, bandRule_profiles]
  rfl

/-- The queue of a sound engine has a WAITING record of its own resource at its head, or none at all. -/
theorem Engine.Sound.head_resource {k : SlotId} {r : ResourceId} {rec : Record} (h : e.Sound due loose ∅)
    (hh : e.head r = some (k, rec)) : rec.resource = r := by
  obtain ⟨hq, hk, -⟩ := head_record hh
  obtain ⟨m, hm⟩ := ((h.fits r).waits k).mp (List.mem_of_head? hq)
  obtain ⟨x, hx, hr, -⟩ := claimsOn_waiting.mp hm
  rw [hk, Option.some.injEq] at hx
  rw [hx, hr]

theorem Engine.Sound.queue_of_no_head {r : ResourceId} (h : e.Sound due loose ∅) (hh : e.head r = none) :
    (e.run r).queue = [] := by
  cases hq : (e.run r).queue with
  | nil => rfl
  | cons k q =>
    obtain ⟨m, hm⟩ := ((h.fits r).waits k).mp (by rw [hq]; exact List.mem_cons_self)
    obtain ⟨x, hx, -, hw, -⟩ := claimsOn_waiting.mp hm
    rw [head_of_headed ⟨by rw [hq]; rfl, hx, hw⟩] at hh
    exact absurd hh nofun

theorem Engine.Sound.head_claim {k : SlotId} {r : ResourceId} {rec : Record} (h : e.Sound due loose ∅)
    (hh : e.head r = some (k, rec)) : (e.run r).queue.head?.bind (e.claimsOn r) = some (false, rec.mode) := by
  obtain ⟨hq, hk, hw⟩ := head_record hh
  rw [hq, Option.bind_some, ← h.head_resource hh]
  exact claimsOn_of_waiting hk hw

/-- A grant from the queue keeps the laws, but that admission has to go on (R58, R33). -/
theorem Engine.Sound.grantHead {k : SlotId} {r : ResourceId} {rec : Record} (h : e.Sound due (insert r loose) ∅)
    (hh : e.head r = some (k, rec)) (hadmits : (e.run r).Admits (e.defn r) (e.claimsOn r) rec.mode) :
    (e.grantHead r k rec).Sound due (insert r loose) ∅ := by
  obtain ⟨-, hk, hw⟩ := head_record hh
  obtain rfl := h.head_resource hh
  unfold Engine.grantHead
  split
  · exact h.exhaust.loosen (Set.subset_insert _ _)
  · rename_i hf
    have hroom : (e.run rec.resource).fence < Config.fenceMax := by simpa [Engine.fenceFull] using hf
    have hclaim := claimsOn_of_waiting hk hw
    obtain ⟨p, hp⟩ := standing_of_isWaiting hw
    have hrun := run_leaveQueue e rec.resource k
    have hvac : ((e.leaveQueue rec.resource k).withRecord k none).Sound due (insert rec.resource (insert rec.resource loose)) ∅ :=
      h.retire_waiting hk hw rfl (profiles_leaveQueue e _ k)
        (fun j hj => by rw [record_withRecord, if_neg (Ne.symm hj)])
        (fun x hx => by rw [record_withRecord, if_pos rfl] at hx; exact absurd hx nofun)
    rw [Set.insert_idem] at hvac
    have hvrun : ((e.leaveQueue rec.resource k).withRecord k none).run rec.resource = _ := hrun
    have hvclaims : ((e.leaveQueue rec.resource k).withRecord k none).claimsOn rec.resource k = none :=
      claimsOn_none fun x hx => by rw [record_withRecord, if_pos rfl] at hx; exact absurd hx nofun
    have hheld : ∀ m, (e.claimsOn rec.resource).HeldAs m →
        Claims.HeldAs (((e.leaveQueue rec.resource k).withRecord k none).claimsOn rec.resource) m := by
      intro m hm j m' hj
      by_cases hjk : j = k
      · rw [hjk, hvclaims] at hj
        exact absurd hj nofun
      · rw [claimsOn_of_record (e := e.leaveQueue rec.resource k)
          (by rw [record_withRecord, if_neg (Ne.symm hjk)]), Engine.leaveQueue, claimsOn_bandRule] at hj
        exact hm j m' hj
    have hready := hvac.granted (k := k)
      (e' := ((e.leaveQueue rec.resource k).joinHolders rec.resource rec.mode).putRecord k
        (rec.grant (grantedHeld ((e.leaveQueue rec.resource k).defn rec.resource).lead
          ((e.leaveQueue rec.resource k).ceiling rec.resource) rec.asked
          (((e.leaveQueue rec.resource k).run rec.resource).fence + 1))))
      (by rw [record_withRecord, if_pos rfl]) (Engine.record_putRecord_self _ _ _) rfl rfl
      (fun q => Engine.defn_setRun _ _ q _) rfl
      (fun j hj => by
        rw [Engine.record_putRecord, if_neg (Ne.symm hj), record_withRecord, if_neg (Ne.symm hj)]
        rfl)
      (fun q hq => by
        have hne : rec.resource ≠ q := Ne.symm hq
        rw [Engine.run_putRecord, Engine.joinHolders, Engine.run_setRun, if_neg hne]
        rfl)
      (Engine.run_setRun_self _ _ _) ?_ ?_ ?_ ?_
    · change Engine.Sound _ due (insert rec.resource (insert rec.resource loose)) ∅ at hready
      rwa [Set.insert_idem] at hready
    · change Record.Fits _ ((e.leaveQueue rec.resource k).defn rec.resource)
        (((e.leaveQueue rec.resource k).run rec.resource).fence + 1) _
      rw [defn_leaveQueue, hrun]
      exact grant_fits (h.records k rec hk) hp (ceiling_pos (hvac.profileOf_valid rec.resource) _) _
    · change ((e.leaveQueue rec.resource k).run rec.resource).state ≠ .offline
      rw [hrun]
      exact (h.fits _).not_offline_of_waiter hclaim
    · change Run.Admits ((e.leaveQueue rec.resource k).defn rec.resource) _
        ((e.leaveQueue rec.resource k).run rec.resource) rec.mode
      rw [defn_leaveQueue, hrun]
      revert hadmits
      cases rec.mode with
      | exclusive => exact id
      | shared => exact fun ⟨hcap, hm⟩ => ⟨hcap, hheld _ hm⟩
    · change ((e.leaveQueue rec.resource k).run rec.resource).fence < _
      rwa [hrun]

/-- A resource at which admission has nothing to see to. -/
theorem Run.settled_of_state {d : Definition} {v : Claims} {x : Run}
    (h : x.state = .offline ∨ x.state = .exclusive ∨ ∃ q, x.state = .quarantine q) : x.Settled d v := by
  unfold Run.Settled
  rcases h with h | h | ⟨q, h⟩ <;> rw [h] <;> trivial

/-- A grant of an EXCLUSIVE record ends admission: the resource is EXCLUSIVE, or OFFLINE. -/
theorem Engine.Sound.grantHead_exclusive {k : SlotId} {r : ResourceId} {rec : Record}
    (h : e.Sound due (insert r loose) ∅) (hh : e.head r = some (k, rec)) (hm : rec.mode = .exclusive)
    (hz : (e.run r).holders = 0) : (e.grantHead r k rec).Sound due loose ∅ := by
  refine (h.grantHead hh (by rw [hm]; exact hz)).settle (Run.settled_of_state ?_)
  rw [grantHead_eq]
  rcases granted_cases (head_record hh) with ho | ⟨hs, -⟩
  · exact .inl ho
  · rw [hm] at hs
    exact .inr (.inl hs)

/-- DRAINING ends where no EXCLUSIVE record is at the head: the resource is SHARED while it has holders, else FREE. -/
theorem Engine.Sound.drained {r : ResourceId} (h : e.Sound due (insert r loose) ∅) (hs : (e.run r).state = .draining) :
    (e.setState r (if 0 < (e.run r).holders then .shared else .free)).Sound due (insert r loose) ∅ := by
  have hoff : (e.run r).state ≠ .offline := by rw [hs]; nofun
  have hstands := (h.fits r).stands
  simp only [Run.Stands, hs] at hstands
  have hset := h.setState (st := if 0 < (e.run r).holders then .shared else .free) hoff (by split <;> nofun) (by
    split
    · rename_i hpos
      exact ⟨hpos, hstands⟩
    · rename_i hpos
      simp only [Run.Stands]
      omega)
  rwa [Set.insert_idem] at hset

/-- After DRAINING one pass fewer is enough. -/
theorem drained_passes (e : Engine) (r : ResourceId) {n fuel : Nat} (hf : (e.run r).queue.length + 1 ≤ fuel) :
    ((e.setState r (if 0 < n then .shared else .free)).run r).queue.length +
      (if ((e.setState r (if 0 < n then .shared else .free)).run r).state = .draining then 2 else 1) ≤ fuel := by
  rw [Engine.setState, Engine.run_setRun_self]
  have hne : (if 0 < n then ResourceState.shared else .free) ≠ .draining := by split <;> nofun
  rw [if_neg hne]
  exact hf

/-- After a grant of a SHARED record admission goes on with one waiter fewer, or stops at OFFLINE. -/
theorem admission_goes_on {fuel : Nat} {k : SlotId} {r : ResourceId} {rec : Record}
    (ih : ∀ {e : Engine}, e.Sound due (insert r loose) ∅ →
      (e.run r).queue.length + (if (e.run r).state = .draining then 2 else 1) ≤ fuel →
      (Engine.admitPasses fuel e r).Sound due loose ∅)
    (h : e.Sound due (insert r loose) ∅) (hh : e.head r = some (k, rec)) (hm : rec.mode = .shared)
    (hadmits : (e.run r).Admits (e.defn r) (e.claimsOn r) rec.mode) (hf : (e.run r).queue.length ≤ fuel) :
    (Engine.admitPasses fuel (e.grantHead r k rec) r).Sound due loose ∅ := by
  have hgrant := h.grantHead hh hadmits
  rw [grantHead_eq] at hgrant ⊢
  rcases granted_cases (head_record hh) with ho | ⟨hs, hlen⟩
  · rw [admitPasses_offline fuel ho]
    exact hgrant.settle (Run.settled_of_state (.inl ho))
  · refine ih hgrant ?_
    rw [hs, hm, if_neg nofun]
    omega

/-- Admission keeps the laws and sees to its resource (R57). -/
theorem Engine.Sound.admitPasses {r : ResourceId} (fuel : Nat) (h : e.Sound due (insert r loose) ∅)
    (hf : (e.run r).queue.length + (if (e.run r).state = .draining then 2 else 1) ≤ fuel) :
    (Engine.admitPasses fuel e r).Sound due loose ∅ := by
  induction fuel generalizing e with
  | zero => split at hf <;> omega
  | succ fuel ih =>
    have hstands := (h.fits r).stands
    have hcap := h.capacity_pos r
    simp only [Run.Stands] at hstands
    unfold Engine.admitPasses
    split
    case h_1 hs => exact h.settle (Run.settled_of_state (.inl hs))
    case h_2 q hs => exact h.settle (Run.settled_of_state (.inr (.inr ⟨q, hs⟩)))
    case h_3 hs => exact h.settle (Run.settled_of_state (.inr (.inl hs)))
    case h_4 k rec hs hh =>
      rw [hs, if_pos rfl] at hf
      split
      · rename_i hm
        split
        · rename_i hpos
          refine h.settle ?_
          simp only [Run.Settled, hs]
          exact ⟨hpos, by rw [h.head_claim hh, hm]⟩
        · exact h.grantHead_exclusive hh hm (by omega)
      · refine ih (h.drained hs) ?_
        exact drained_passes e r (by omega)
    case h_5 hs hh =>
      rw [hs, if_pos rfl] at hf
      refine ih (h.drained hs) ?_
      exact drained_passes e r (by omega)
    case h_6 hs hh =>
      refine h.settle ?_
      simp only [Run.Settled, hs]
      exact h.queue_of_no_head hh
    case h_7 hs hh =>
      refine h.settle ?_
      simp only [Run.Settled, hs]
      exact .inl (h.queue_of_no_head hh)
    case h_8 k rec hs hh =>
      rw [hs, if_neg nofun] at hf
      simp only [hs] at hstands
      split
      · rename_i hm
        exact h.grantHead_exclusive hh hm hstands
      · rename_i hm
        rw [if_pos (by omega)]
        refine admission_goes_on ih h hh hm ?_ (by omega)
        rw [hm]
        exact ⟨by omega, heldAs_of_no_holder (by rw [← (h.fits r).holders, hstands]) _⟩
    case h_9 k rec hs hh =>
      rw [hs, if_neg nofun] at hf
      simp only [hs] at hstands
      split
      · rename_i hm
        have hset := h.setState (r := r) (st := .draining) (by rw [hs]; nofun) nofun hstands.2
        rw [Set.insert_idem] at hset
        refine hset.settle ?_
        rw [Engine.setState, Engine.run_setRun_self, Engine.defn_setRun]
        exact ⟨hstands.1, by rw [← hm]; exact h.head_claim hh⟩
      · rename_i hm
        split
        · rename_i hlt
          exact admission_goes_on ih h hh hm (by rw [hm]; exact ⟨hlt, hstands.2.2⟩) (by omega)
        · refine h.settle ?_
          simp only [Run.Settled, hs]
          exact .inr ⟨by rw [← hm]; exact h.head_claim hh, by omega⟩

theorem Engine.Sound.admission {r : ResourceId} (h : e.Sound due (insert r loose) ∅) :
    (e.admission r).Sound due loose ∅ := h.admitPasses _ (by split <;> omega)

/-- Admission for each resource of a list. -/
theorem Engine.Sound.admissions {l : List ResourceId} (h : e.Sound due loose ∅) (hl : ∀ r, r ∈ loose → r ∈ l) :
    (l.foldl Engine.admission e).Sound due ∅ ∅ := by
  induction l generalizing e loose with
  | nil => exact h.loosen fun r hr => absurd (hl r hr) List.not_mem_nil
  | cons r l ih =>
    have hone : e.Sound due (insert r {q | q ∈ loose ∧ q ≠ r}) ∅ := h.loosen fun q hq => by
      by_cases hqr : q = r
      · exact Set.mem_insert_iff.mpr (.inl hqr)
      · exact Set.mem_insert_iff.mpr (.inr ⟨hq, hqr⟩)
    exact ih hone.admission fun q hq => (List.mem_cons.mp (hl q hq.1)).resolve_left hq.2

/-- Admission for every resource that is left to it. -/
theorem Engine.Sound.admissionWhere {p : ResourceId → Bool} (h : e.Sound due {r | p r = true} ∅) :
    (e.admissionWhere p).Sound due ∅ ∅ :=
  h.admissions fun r hr => List.mem_filter.mpr ⟨List.mem_finRange r, hr⟩

/-! ## ACQUIRE (R48 to R55) -/

/-- What R49 and R51 have checked of an ACQUIRE that is not refused. -/
structure Engine.MayAcquire (e : Engine) (n : Client) (r : ResourceId) (a : AcquireArgs) : Prop where
  term : 1 ≤ a.term ∧ a.term ≤ 65535
  patience : a.patience ≤ 65535
  online : (e.run r).state ≠ .offline
  line : a.mode = .shared → (e.defn r).kind ≠ .line
  patient : e.grantable r a.mode = false → 1 ≤ a.patience ∧ (e.run r).queue.length < (e.defn r).queueLimit

theorem acquireArgs_range {args : List Byte} {a : AcquireArgs} (h : acquireArgs args = some a) :
    (1 ≤ a.term ∧ a.term ≤ 65535) ∧ a.patience ≤ 65535 := by
  have h2 := argWord_lt args 2
  have h4 := argWord_lt args 4
  unfold acquireArgs at h
  split at h
  · split at h
    · exact absurd h nofun
    · cases h
      simp only
      omega
  · exact absurd h nofun

theorem mayAcquire {n : Client} {r : ResourceId} {args : List Byte} {a : AcquireArgs} (ha : acquireArgs args = some a)
    (hr : e.acquireRefusal n r a = none) : e.MayAcquire n r a := by
  obtain ⟨hterm, hpatience⟩ := acquireArgs_range ha
  unfold Engine.acquireRefusal at hr
  simp only at hr
  split at hr
  · exact absurd hr nofun
  · rename_i hon
    split at hr
    · exact absurd hr nofun
    · rename_i hmode
      split at hr
      · exact absurd hr nofun
      · split at hr
        · exact absurd hr nofun
        · split at hr
          · exact absurd hr nofun
          · rename_i hbusy
            split at hr
            · exact absurd hr nofun
            · rename_i hfull
              refine ⟨hterm, hpatience, fun ho => hon (.inr ho), fun hm hk => hmode ⟨hm, hk⟩, fun hg => ?_⟩
              simp only [hg, Bool.false_eq_true, not_false_eq_true, and_true, true_and] at hbusy hfull
              omega

theorem Engine.Sound.grantAtOnce {n : Client} {r : ResourceId} {a : AcquireArgs} {k : SlotId} (h : e.Sound due ∅ ∅)
    (hmay : e.MayAcquire n r a) (hk : e.record k = none) (hg : e.grantable r a.mode = true)
    (hf : e.fenceFull r = false) : (e.grantAtOnce n r a k).Sound due ∅ ∅ := by
  have hroom : (e.run r).fence < Config.fenceMax := by simpa [Engine.fenceFull] using hf
  obtain ⟨hqueue, hstate⟩ := (grantable_iff e r a.mode).mp hg
  have hstands := (h.fits r).stands
  simp only [Run.Stands] at hstands
  have hadmits : (e.run r).Admits (e.defn r) (e.claimsOn r) a.mode := by
    cases hm : a.mode with
    | exclusive =>
      rw [hm] at hstate
      simp only [hstate] at hstands
      exact hstands
    | shared =>
      rw [hm] at hstate
      obtain ⟨hs | hs, hlt⟩ := hstate <;> simp only [hs] at hstands
      · exact ⟨hlt, heldAs_of_no_holder (by rw [← (h.fits r).holders, hstands]) _⟩
      · exact ⟨hlt, hstands.2.2⟩
  have hrecord : ∀ j, (e.grantAtOnce n r a k).record j =
      if k = j then some (a.record n r (.held (e.immediateHeld r a))) else e.record j := fun j =>
    Engine.record_putRecord (e.joinHolders r a.mode) k j _
  have hrun : (e.grantAtOnce n r a k).run r = (e.run r).joined a.mode := Engine.run_setRun_self e r _
  have hdefn : ∀ q, (e.grantAtOnce n r a k).defn q = e.defn q := fun q => Engine.defn_setRun e r q _
  refine Engine.Sound.settle (h.granted hk (by rw [hrecord, if_pos rfl]) rfl rfl hdefn rfl
    (fun j hj => by rw [hrecord, if_neg (Ne.symm hj)])
    (fun q hq => (Engine.run_setRun e r q _).trans (if_neg (Ne.symm hq))) hrun
    (acquired_held_fits hmay.term hmay.line (h.profileOf_valid r) _) hmay.online hadmits hroom) ?_
  change Run.Settled _ _ ((e.grantAtOnce n r a k).run r)
  rw [hrun]
  cases hm : a.mode with
  | exclusive => trivial
  | shared => exact .inl hqueue

/-- The queue's head is as it was, or the record that has joined. -/
theorem head_enqueue {v : Claims} {q : List SlotId} {k : SlotId} {m : Mode} (hk : k ∉ q) :
    (q ++ [k]).head?.bind (Function.update v k (some (false, m))) =
      if q = [] then some (false, m) else q.head?.bind v := by
  cases q with
  | nil => simp
  | cons j q =>
    have hj : j ≠ k := fun hj => hk (hj ▸ List.mem_cons_self)
    simp [hj]

/-- R55: after a wait on a resource not grantable at once the row of R29 stands, DRAINING where the record is the
EXCLUSIVE head of a SHARED resource. -/
theorem Run.Fits.waits_on {d : Definition} {v : Claims} {x y : Run} {k : SlotId} {m : Mode} (h : x.Fits d v)
    (hset : x.Settled d v) (hcap : 1 ≤ d.capacity) (hk : v k = none) (hoff : x.state ≠ .offline)
    (hnot : ¬ (x.queue = [] ∧
      match m with
      | .exclusive => x.state = .free
      | .shared => (x.state = .free ∨ x.state = .shared) ∧ x.holders < d.capacity))
    (hy : y.state = if x.queue = [] ∧ x.state = .shared ∧ m = .exclusive then .draining else x.state)
    (hholders : y.holders = x.holders) (hqueue : y.queue = x.queue ++ [k]) :
    y.Settled d (Function.update v k (some (false, m))) := by
  have hnotin : k ∉ x.queue := fun hm => by
    obtain ⟨m', hm'⟩ := (h.waits k).mp hm
    rw [hk] at hm'
    exact absurd hm' nofun
  have hhead := head_enqueue (v := v) (m := m) hnotin
  have hstands := h.stands
  simp only [Run.Stands] at hstands
  simp only [Run.Settled] at hset
  unfold Run.Settled
  rw [hy, hqueue, hholders, hhead]
  by_cases hq : x.queue = []
  · simp only [hq, true_and, if_true] at hnot ⊢
    cases hs : x.state <;> simp only [hs] at hstands hset hnot ⊢
    · exact absurd hs hoff
    · cases m with
      | exclusive => exact absurd trivial hnot
      | shared => exact absurd ⟨.inl trivial, by omega⟩ hnot
    · simp
    · cases m with
      | exclusive => simpa using hstands.1
      | shared =>
        simp only [reduceCtorEq, and_false, if_false, true_and]
        refine .inr ?_
        by_contra hne
        exact hnot ⟨.inr trivial, by omega⟩
    · rw [hq] at hset
      exact absurd hset.2 (by simp)
    · simp
  · simp only [hq, false_and, if_false]
    cases hs : x.state <;> simp only [hs] at hstands hset ⊢
    · exact absurd hset hq
    · exact .inr (hset.resolve_left hq)
    · exact hset

/-- A WAITING record is made in the FREE slot `k` and put at the tail of its queue (R55). -/
def Engine.enqueued (e : Engine) (k : SlotId) (rec : Record) : Engine :=
  (e.create k rec).setQueue rec.resource ((e.run rec.resource).queue ++ [k])

theorem record_enqueued (e : Engine) (k j : SlotId) (rec : Record) :
    (e.enqueued k rec).record j = if k = j then some rec else e.record j := Engine.record_putRecord e k j _

theorem run_enqueued_self (e : Engine) (k : SlotId) (rec : Record) :
    (e.enqueued k rec).run rec.resource = { e.run rec.resource with queue := (e.run rec.resource).queue ++ [k] } :=
  run_setQueue_self (e.create k rec) rec.resource _

theorem claimsOn_enqueued {k : SlotId} {rec : Record} (hw : rec.isWaiting = true) :
    (e.enqueued k rec).claimsOn rec.resource =
      Function.update (e.claimsOn rec.resource) k (some (false, rec.mode)) := by
  funext j
  by_cases hj : j = k
  · subst hj
    rw [Function.update_self]
    exact claimsOn_of_waiting (by rw [record_enqueued, if_pos rfl]) hw
  · rw [Function.update_of_ne hj]
    exact claimsOn_of_record (by rw [record_enqueued, if_neg (Ne.symm hj)]) rec.resource

/-- A record that joins the queue leaves its resource to the band rule and to DRAINING (R55, R95). -/
theorem Engine.Sound.enqueued {k : SlotId} {rec : Record} (h : e.Sound due loose ∅) (hk : e.record k = none)
    (hw : rec.isWaiting = true) (hoff : (e.run rec.resource).state ≠ .offline)
    (hlen : (e.run rec.resource).queue.length < (e.defn rec.resource).queueLimit)
    (hfits : rec.Fits (k ∈ due) (e.defn rec.resource) (e.run rec.resource).fence) :
    (e.enqueued k rec).Sound due (insert rec.resource loose) (insert rec.resource ∅) := by
  have hnone : e.claimsOn rec.resource k = none := claimsOn_none fun x hx => by
    rw [hk] at hx
    exact absurd hx nofun
  have hself : ∀ x, (e.enqueued k rec).record k = some x → x = rec := fun x hx => by
    rw [record_enqueued, if_pos rfl, Option.some.injEq] at hx
    exact hx.symm
  have hrun := run_enqueued_self e k rec
  refine h.change (k := k) (Engine.defn_setRun _ _ · _) rfl
    (fun j hj => by rw [record_enqueued, if_neg (Ne.symm hj)]) (fun s hs => run_setQueue_ne (e.create k rec) _ hs)
    (fun x hx => ?_) (fun x hx => ?_) (by rw [hrun]) (fun x g hx hs => ?_) ?_ (by rw [hrun]; exact h.bands _)
  · rw [hk] at hx
    exact absurd hx nofun
  · rw [hself x hx, hrun]
    exact ⟨fun _ => rfl, hfits⟩
  · rw [hself x hx] at hs
    have := not_isHeld_of_isWaiting hw
    rw [isHeld_of_standing hs] at this
    exact absurd this nofun
  · rw [hrun, claimsOn_enqueued hw, Function.update_self]
    exact (h.fits _).enqueue rec.mode hnone hoff hlen

/-- The WAITING record that an ACQUIRE makes (R55). -/
def AcquireArgs.waiter (a : AcquireArgs) (n : Client) (r : ResourceId) : Record :=
  a.record n r (.waiting (patienceOf a.patience))

theorem Engine.Sound.join {n : Client} {r : ResourceId} {a : AcquireArgs} {k : SlotId} (h : e.Sound due ∅ ∅)
    (hmay : e.MayAcquire n r a) (hk : e.record k = none) (hg : e.grantable r a.mode = false) :
    (e.join n r a k).Sound due ∅ ∅ := by
  obtain ⟨hpatience, hlen⟩ := hmay.patient hg
  have hnone : e.claimsOn r k = none := claimsOn_none fun x hx => by
    rw [hk] at hx
    exact absurd hx nofun
  have hqueued : (e.enqueued k (a.waiter n r)).Sound due (insert r ∅) (insert r ∅) :=
    h.enqueued hk rfl hmay.online hlen (acquired_waiting_fits hmay.term hmay.line ⟨hpatience, hmay.patience⟩ _ _)
  have hqrun : (e.enqueued k (a.waiter n r)).run r = { e.run r with queue := (e.run r).queue ++ [k] } :=
    run_enqueued_self e k (a.waiter n r)
  have hruled := hqueued.bandRule (by rw [hqrun]; exact hmay.online)
  have hdefn : ((e.enqueued k (a.waiter n r)).bandRule r).defn r = e.defn r := by
    rw [bandRule_defn]
    exact Engine.defn_setRun _ r r _
  have hclaims : ((e.enqueued k (a.waiter n r)).bandRule r).claimsOn r =
      Function.update (e.claimsOn r) k (some (false, a.mode)) := by
    rw [claimsOn_bandRule]
    exact claimsOn_enqueued (rec := a.waiter n r) rfl
  have hrun := run_bandRule_self (e.enqueued k (a.waiter n r)) r
  have hwaits := fun (y : Run) => (h.fits r).waits_on (y := y) (h.settled r (Set.notMem_empty r)) (h.capacity_pos r)
    hnone hmay.online (mt (grantable_iff e r a.mode).mpr (by rw [hg]; nofun))
  rw [hqrun] at hrun
  change (if (e.run r).queue = [] ∧ (e.run r).state = .shared ∧ a.mode = .exclusive then
    ((e.enqueued k (a.waiter n r)).bandRule r).setState r .draining
    else (e.enqueued k (a.waiter n r)).bandRule r).Sound due ∅ ∅
  split
  · rename_i hd
    have hstate : (((e.enqueued k (a.waiter n r)).bandRule r).run r).state = .shared := by
      rw [hrun]
      exact hd.2.1
    have hstands := (hruled.fits r).stands
    simp only [Run.Stands, hstate] at hstands
    have hset := hruled.setState (r := r) (st := .draining) (by rw [hstate]; nofun) nofun hstands.2
    rw [Set.insert_idem] at hset
    refine hset.settle ?_
    rw [Engine.setState, Engine.run_setRun_self, Engine.defn_setRun, hdefn,
      show (((e.enqueued k (a.waiter n r)).bandRule r).setRun r _).claimsOn r = _ from hclaims, hrun]
    exact hwaits _ (if_pos hd).symm rfl rfl
  · rename_i hd
    refine hruled.settle ?_
    rw [hdefn, hclaims, hrun]
    exact hwaits _ (if_neg hd).symm rfl rfl

end Sound

end Sys2Proof.Machine
end

section
/-! PROOF. Records that end keep the laws of the lease engine, their resources left to admission: revocation, lapse,
release, and the end of a session. -/

namespace Sys2Proof.Machine

section Sound

variable {e : Engine} {due : Set SlotId} {loose : Set ResourceId}

/-! ## What a record that ends leaves behind -/

/-- Between `e` and `e'` only the record in slot `k` has changed, and of the resources only its own: a holder has left
it (R43), and quarantine may have begun (R101). -/
structure Engine.HolderLeft (e e' : Engine) (k : SlotId) (rec : Record) : Prop where
  defn : ∀ q, e'.defn q = e.defn q
  profiles : e'.profiles = e.profiles
  others : ∀ j, j ≠ k → e'.record j = e.record j
  runs : ∀ q, q ≠ rec.resource → e'.run q = e.run q
  run : e'.run rec.resource = (e.run rec.resource).departed rec.mode ∨
    (rec.mode = .exclusive ∧ (e.defn rec.resource).quarantine ≠ 0 ∧ e'.run rec.resource =
      { (e.run rec.resource).departed rec.mode with state := .quarantine (e.defn rec.resource).quarantine })

theorem holderLeft_depart (e : Engine) (k : SlotId) (rec : Record) :
    e.HolderLeft (e.depart rec.resource rec.mode) k rec :=
  ⟨fun q => Engine.defn_setRun e _ q _, rfl, fun _ _ => rfl,
    fun _ hq => (Engine.run_setRun e _ _ _).trans (if_neg (Ne.symm hq)), .inl (Engine.run_setRun_self e _ _)⟩

theorem holderLeft_revoke {k : SlotId} {rec : Record} (hk : e.record k = some rec) (hh : rec.isHeld = true)
    (c : Cause) : e.HolderLeft (e.revoke k c) k rec ∧ (e.revoke k c).record k = some (rec.revoke c) := by
  have hleft : e.HolderLeft ((e.putRecord k (rec.revoke c)).depart rec.resource rec.mode) k rec :=
    ⟨fun q => Engine.defn_setRun _ _ q _, rfl,
      fun j hj => (Engine.record_putRecord e k j _).trans (if_neg (Ne.symm hj)),
      fun _ hq => (Engine.run_setRun _ _ _ _).trans (if_neg (Ne.symm hq)), .inl (Engine.run_setRun_self _ _ _)⟩
  have hself : (e.putRecord k (rec.revoke c)).record k = some (rec.revoke c) := Engine.record_putRecord_self e k _
  simp only [Engine.revoke, hk, hh, if_true]
  split
  · rename_i hq
    simp only [startsQuarantine, Bool.and_eq_true, beq_iff_eq, bne_iff_ne] at hq
    refine ⟨⟨fun q => (Engine.defn_setRun _ _ q _).trans (hleft.defn q), rfl, hleft.others, fun q hne => ?_, .inr ?_⟩,
      hself⟩
    · exact ((Engine.run_setRun _ _ _ _).trans (if_neg (Ne.symm hne))).trans (hleft.runs q hne)
    · obtain ⟨⟨hmode, hquarantine⟩, -⟩ := hq
      refine ⟨hmode, hquarantine, ?_⟩
      rw [Engine.setState, Engine.run_setRun_self, Engine.depart, Engine.run_setRun_self]
      rfl
  · exact ⟨hleft, hself⟩

theorem resources_freeSlot (e : Engine) (k : SlotId) : (e.freeSlot k).resources = e.resources := by
  unfold Engine.freeSlot
  split <;> rfl

theorem profiles_freeSlot (e : Engine) (k : SlotId) : (e.freeSlot k).profiles = e.profiles := by
  unfold Engine.freeSlot
  split <;> rfl

theorem Engine.HolderLeft.freeSlot {e' : Engine} {k : SlotId} {rec : Record} (h : e.HolderLeft e' k rec) :
    e.HolderLeft (e'.freeSlot k) k rec :=
  ⟨fun q => (defn_of_resources (resources_freeSlot e' k) q).trans (h.defn q), (profiles_freeSlot e' k).trans h.profiles,
    fun j hj => (record_freeSlot_ne e' (Ne.symm hj)).trans (h.others j hj),
    fun q hq => (run_of_resources (resources_freeSlot e' k) q).trans (h.runs q hq),
    by rw [run_of_resources (resources_freeSlot e' k)]; exact h.run⟩

/-- A holder that has left leaves its resource to admission. -/
theorem Engine.Sound.holderLeft {e' : Engine} {k : SlotId} {rec : Record} (h : e.Sound due loose ∅)
    (hk : e.record k = some rec) (hh : rec.isHeld = true) (hl : e.HolderLeft e' k rec) (hloose : rec.resource ∈ loose)
    (hdead : ∀ x, e'.record k = some x → x.isLive = false ∧
      x.Fits (k ∈ due) (e.defn x.resource) (e'.run x.resource).fence) : e'.Sound due loose ∅ := by
  have hq := h.quarantine_le rec.resource
  have hend := h.retire_held hk hh hl.defn hl.profiles hl.others hl.runs hdead
    (hl.run.imp_right fun ⟨hm, hne, hrun⟩ => ⟨_, hm, Nat.one_le_iff_ne_zero.mpr hne, hq, hrun⟩)
  rwa [Set.insert_eq_of_mem hloose] at hend

theorem Engine.HolderLeft.fence {e' : Engine} {k : SlotId} {rec : Record} (h : e.HolderLeft e' k rec) :
    (e'.run rec.resource).fence = (e.run rec.resource).fence := by
  rcases h.run with hrun | ⟨-, -, hrun⟩ <;> rw [hrun] <;> rfl

theorem revoke_resource (c : Cause) (rec : Record) : (rec.revoke c).resource = rec.resource :=
  (revoke_persists c rec).claim.2.1

theorem revoke_dead {rec : Record} (hh : rec.isHeld = true) (c : Cause) : (rec.revoke c).isLive = false := by
  obtain ⟨g, hg⟩ := standing_of_isHeld hh
  simp only [Record.revoke, hg]
  rfl

theorem lapse_dead {rec : Record} (hw : rec.isWaiting = true) (c : Cause) : (rec.lapse c).isLive = false := by
  obtain ⟨p, hp⟩ := standing_of_isWaiting hw
  simp only [Record.lapse, hp]
  rfl

/-! ## Revocation, lapse, release and cancellation -/

theorem Engine.Sound.revoke {k : SlotId} {c : Cause} (h : e.Sound due loose ∅)
    (hc : c = .expired ∨ c = .forced ∨ c = .offline)
    (hloose : ∀ rec, e.record k = some rec → rec.isHeld = true → rec.resource ∈ loose) :
    (e.revoke k c).Sound due loose ∅ := by
  cases hk : e.record k with
  | none => simpa only [Engine.revoke, hk] using h
  | some rec =>
    by_cases hh : rec.isHeld = true
    · obtain ⟨hleft, hself⟩ := holderLeft_revoke hk hh c
      obtain ⟨g, hg⟩ := standing_of_isHeld hh
      refine h.holderLeft hk hh hleft (hloose rec hk hh) fun x hx => ?_
      rw [hself, Option.some.injEq] at hx
      subst hx
      rw [revoke_resource, hleft.fence]
      exact ⟨revoke_dead hh c, revoke_fits (h.records k rec hk) hg hc _⟩
    · simpa only [Engine.revoke, hk, hh, Bool.false_eq_true, if_false] using h

theorem Engine.Sound.lapse {k : SlotId} {c : Cause} (h : e.Sound due loose ∅)
    (hc : c = .patience ∨ c = .forced ∨ c = .offline)
    (hloose : ∀ rec, e.record k = some rec → rec.isWaiting = true → rec.resource ∈ loose) :
    (e.lapse k c).Sound due loose ∅ := by
  cases hk : e.record k with
  | none => simpa only [Engine.lapse, hk] using h
  | some rec =>
    by_cases hw : rec.isWaiting = true
    · obtain ⟨p, hp⟩ := standing_of_isWaiting hw
      simp only [Engine.lapse, hk, hw, if_true]
      rw [← Set.insert_eq_of_mem (hloose rec hk hw)]
      refine h.retire_waiting hk hw rfl (profiles_leaveQueue e _ k)
        (fun j hj => (Engine.record_putRecord _ k j _).trans (if_neg (Ne.symm hj))) fun x hx => ?_
      rw [Engine.record_putRecord_self, Option.some.injEq] at hx
      subst hx
      rw [show (rec.lapse c).resource = rec.resource from (lapse_persists c rec).claim.2.1]
      exact ⟨lapse_dead hw c, lapse_fits (h.records k rec hk) hp hc _⟩
    · simpa only [Engine.lapse, hk, hw, Bool.false_eq_true, if_false] using h

/-- A holder leaves, and its slot is freed (R81, R122, R124). -/
theorem Engine.Sound.holderFreed {e' : Engine} {k : SlotId} {rec : Record} (h : e.Sound due loose ∅)
    (hk : e.record k = some rec) (hh : rec.isHeld = true) (hl : e.HolderLeft e' k rec) (hloose : rec.resource ∈ loose) :
    (e'.freeSlot k).Sound due loose ∅ :=
  h.holderLeft hk hh hl.freeSlot hloose fun x hx => by
    rw [record_freeSlot_self] at hx
    exact absurd hx nofun

/-- A waiter leaves its queue, and its slot is freed (R61, R122, R124). -/
theorem Engine.Sound.waiterFreed {k : SlotId} {rec : Record} (h : e.Sound due loose ∅)
    (hk : e.record k = some rec) (hw : rec.isWaiting = true) (hloose : rec.resource ∈ loose) :
    ((e.leaveQueue rec.resource k).freeSlot k).Sound due loose ∅ := by
  rw [← Set.insert_eq_of_mem hloose]
  refine h.retire_waiting hk hw (resources_freeSlot _ k) ((profiles_freeSlot _ k).trans (profiles_leaveQueue e _ k))
    (fun j hj => record_freeSlot_ne _ (Ne.symm hj)) fun x hx => ?_
  rw [record_freeSlot_self] at hx
  exact absurd hx nofun

/-- A slot without a live record is freed (R82, R62, R144). -/
theorem Engine.Sound.deadFreed {k : SlotId} (h : e.Sound due loose ∅)
    (hdead : ∀ rec, e.record k = some rec → rec.isLive = false) : (e.freeSlot k).Sound due loose ∅ :=
  h.retire_dead hdead (record_freeSlot_self e k) (fun _ hj => record_freeSlot_ne e (Ne.symm hj))
    (resources_freeSlot e k) (profiles_freeSlot e k)

/-! ## The end of a session (R122, R124) -/

/-- A record that is neither held nor WAITING is a tombstone. -/
theorem dead_of_not {rec : Record} (hh : ¬ rec.isHeld = true) (hw : ¬ rec.isWaiting = true) : rec.isLive = false := by
  by_contra hl
  exact hw (isWaiting_of_live (Bool.not_eq_false _ ▸ hl) (Bool.eq_false_iff.mpr hh))

/-- A record ends, whatever it is, and its slot is freed: `left` is the engine that its holder leaves behind. -/
theorem Engine.Sound.recordEnds {left : Engine} {k : SlotId} {rec : Record} (h : e.Sound due loose ∅)
    (hk : e.record k = some rec) (hleft : rec.isHeld = true → e.HolderLeft left k rec)
    (hloose : rec.isLive = true → rec.resource ∈ loose) :
    (if rec.isHeld then left.freeSlot k
      else if rec.isWaiting then (e.leaveQueue rec.resource k).freeSlot k else e.freeSlot k).Sound due loose ∅ := by
  by_cases hh : rec.isHeld = true
  · rw [if_pos hh]
    exact h.holderFreed hk hh (hleft hh) (hloose (isLive_of_isHeld hh))
  · rw [if_neg hh]
    by_cases hw : rec.isWaiting = true
    · rw [if_pos hw]
      exact h.waiterFreed hk hw (hloose (isLive_of_isWaiting hw))
    · rw [if_neg hw]
      refine h.deadFreed fun x hx => ?_
      rw [hk, Option.some.injEq] at hx
      exact hx ▸ dead_of_not hh hw

theorem Engine.Sound.endRecord {n : Client} {k : SlotId} (h : e.Sound due loose ∅)
    (hloose : ∀ rec, e.record k = some rec → rec.client = n → rec.isLive = true → rec.resource ∈ loose) :
    (e.endRecord n k).Sound due loose ∅ := by
  unfold Engine.endRecord
  split
  · rename_i rec hk
    split
    · rename_i hn
      exact h.recordEnds hk (fun _ => holderLeft_depart e k rec) (hloose rec hk hn)
    · exact h
  · exact h

theorem Engine.Sound.barRecord {n : Client} {k : SlotId} (h : e.Sound due loose ∅)
    (hloose : ∀ rec, e.record k = some rec → rec.client = n → rec.isLive = true → rec.resource ∈ loose) :
    (e.barRecord n k).Sound due loose ∅ := by
  unfold Engine.barRecord
  split
  · rename_i rec hk
    split
    · rename_i hn
      exact h.recordEnds hk (fun hh => (holderLeft_revoke hk hh .barred).1) (hloose rec hk hn)
    · exact h
  · exact h

/-- What a live record of client `n` claims in an engine that follows `e`, it claimed in `e`. -/
theorem Engine.Follows.claims {e' : Engine} {n : Client} {k : SlotId} {rec : Record} (h : e.Follows e')
    (hk : e'.record k = some rec) (hn : rec.client = n) (hl : rec.isLive = true) : e.claims n rec.resource = true := by
  obtain ⟨x, hx, hp⟩ := h.record hk
  rw [Engine.claims, firstWhere_isSome]
  refine ⟨k, ?_⟩
  simp [hx, Record.liveOf, hp.live hl, ← hp.claim.1, ← hp.claim.2.1, hn]

/-- A visit to every slot that ends records of client `n`, each resource they claimed left to admission. -/
theorem Engine.Sound.visits {n : Client} {f : Engine → SlotId → Engine} (h : e.Sound due ∅ ∅)
    (hfollows : ∀ a k, Engine.Follows a (f a k))
    (hsound : ∀ a k, Engine.Sound a due {r | e.claims n r = true} ∅ →
      (∀ rec, a.record k = some rec → rec.client = n → rec.isLive = true → rec.resource ∈ {r | e.claims n r = true}) →
      (f a k).Sound due {r | e.claims n r = true} ∅) (l : List SlotId) :
    ((l.foldl f e).admissionWhere (e.claims n)).Sound due ∅ ∅ :=
  (foldl_invariant (P := fun a => e.Follows a ∧ a.Sound due {r | e.claims n r = true} ∅) l
    ⟨.refl e, h.loosen (Set.empty_subset _)⟩ fun a k _ ⟨hf, hs⟩ =>
      ⟨hf.trans (hfollows a k), hsound a k hs fun _ hk hn hl => hf.claims hk hn hl⟩).2.admissionWhere

theorem Engine.Sound.endSession (h : e.Sound due ∅ ∅) (n : Client) : (e.endSession n).Sound due ∅ ∅ :=
  h.visits (follows_endRecord n) (fun _ _ hs hl => hs.endRecord hl) _

theorem Engine.Sound.barSession (h : e.Sound due ∅ ∅) (n : Client) : (e.barSession n).Sound due ∅ ∅ :=
  h.visits (follows_barRecord n) (fun _ _ hs hl => hs.barRecord hl) _

end Sound

end Sys2Proof.Machine
end

section
/-! PROOF. A tick keeps the laws of the lease engine: what the countdown brings to 0 ends before the tick does. -/

namespace Sys2Proof.Machine

section Sound

variable {e : Engine} {due : Set SlotId} {loose : Set ResourceId}

/-! ## Countdown (R70) -/

theorem countdown_touches (lead : Nat) (rec : Record) : rec.Touches (rec.countdown lead) := by
  unfold Record.countdown
  split
  · rename_i p hs
    refine ⟨fun r => ?_, nofun, rfl⟩
    simp only [Record.claimOn, Record.isLive, Record.isHeld, hs]
    rfl
  · rename_i h hs
    refine touches_of_held hs ?_ rec.asked _
    rfl
  · exact .refl rec

/-- The slots that stage 1 of a tick marks (R70). -/
def Engine.marked (e : Engine) : Set SlotId := {k | k ∈ e.slotsWhere Record.lapses ∨ k ∈ e.slotsWhere Record.expires}

theorem mem_slotsWhere {p : Record → Bool} {k : SlotId} :
    k ∈ e.slotsWhere p ↔ ∃ rec, e.record k = some rec ∧ p rec = true := by
  simp [Engine.slotsWhere, Option.any_eq_true]

theorem Engine.Sound.countdown (h : e.Sound ∅ ∅ ∅) : e.countdown.Sound e.marked ∅ ∅ := by
  refine h.mapRecords fun k rec hk => ⟨countdown_touches _ rec, ?_⟩
  refine (countdown_fits ((h.records k rec hk).imp fun hm => absurd hm (Set.notMem_empty k))).imp fun hm => ?_
  exact hm.imp (fun hl => mem_slotsWhere.mpr ⟨rec, hk, hl⟩) (fun hx => mem_slotsWhere.mpr ⟨rec, hk, hx⟩)

/-! ## Lapses and expiries (R71, R72) -/

/-- A record of a listed slot, in an engine that follows `e`, is on a resource the list names. -/
theorem Engine.Follows.names {e' : Engine} {l : List SlotId} {k : SlotId} {rec : Record} (h : e.Follows e')
    (hl : k ∈ l) (hk : e'.record k = some rec) : e.names l rec.resource = true := by
  obtain ⟨x, hx, hp⟩ := h.record hk
  rw [Engine.names, List.any_eq_true]
  exact ⟨k, hl, by simp [hx, hp.claim.2.1]⟩

/-- A visit to every slot of a list that ends records in it, each resource the list names left to admission. -/
theorem Engine.Sound.visitsListed {f : Engine → SlotId → Engine} {l : List SlotId} (h : e.Sound due ∅ ∅)
    (hplace : ∀ a k, Engine.InPlace a (f a k))
    (hsound : ∀ a k, Engine.Sound a due {r | e.names l r = true} ∅ →
      (∀ rec, a.record k = some rec → rec.resource ∈ {r | e.names l r = true}) →
      (f a k).Sound due {r | e.names l r = true} ∅) :
    ((l.foldl f e).admissionWhere (e.names l)).Sound due ∅ ∅ :=
  (foldl_invariant (P := fun a => e.Follows a ∧ a.Sound due {r | e.names l r = true} ∅) l
    ⟨.refl e, h.loosen (Set.empty_subset _)⟩ fun a k hk ⟨hf, hs⟩ =>
      ⟨hf.trans (hplace a k).follows, hsound a k hs fun _ hrec => hf.names hk hrec⟩).2.admissionWhere

theorem Engine.Sound.lapseStage (h : e.Sound due ∅ ∅) (l : List SlotId) : (e.lapseStage l).Sound due ∅ ∅ :=
  h.visitsListed (fun a k => inPlace_lapse a k .patience) fun _ _ hs hl =>
    hs.lapse (.inl rfl) fun rec hk _ => hl rec hk

theorem Engine.Sound.expireStage (h : e.Sound due ∅ ∅) (l : List SlotId) : (e.expireStage l).Sound due ∅ ∅ :=
  h.visitsListed (fun a k => inPlace_revoke a k .expired) fun _ _ hs hl =>
    hs.revoke (.inl rfl) fun rec hk _ => hl rec hk

/-! ## What a tick has ended -/

/-- Slot `k` holds no record of which `p` is true. -/
def Engine.holdsNo (p : Record → Bool) (e : Engine) (k : SlotId) : Prop := ∀ rec, e.record k = some rec → p rec = false

theorem Engine.InPlace.holdsNo_waiting {e' : Engine} (h : e.InPlace e') {k : SlotId}
    (hk : e.holdsNo Record.isWaiting k) : e'.holdsNo Record.isWaiting k := fun rec hrec => by
  obtain ⟨x, hx, hp⟩ := h.follows.record hrec
  exact Bool.eq_false_iff.mpr fun hw => Bool.eq_false_iff.mp (hk x hx) (hp.waiting hw)

theorem Engine.InPlace.holdsNo_live {e' : Engine} (h : e.InPlace e') {k : SlotId}
    (hk : e.holdsNo Record.isLive k) : e'.holdsNo Record.isLive k := fun rec hrec => by
  obtain ⟨x, hx, hp⟩ := h.follows.record hrec
  exact Bool.eq_false_iff.mpr fun hl => Bool.eq_false_iff.mp (hk x hx) (hp.live hl)

theorem holdsNo_live_of {k : SlotId} (hh : e.holdsNo Record.isHeld k) (hw : e.holdsNo Record.isWaiting k) :
    e.holdsNo Record.isLive k := fun rec hrec =>
  dead_of_not (Bool.eq_false_iff.mp (hh rec hrec)) (Bool.eq_false_iff.mp (hw rec hrec))

theorem lapse_eq_self {k : SlotId} {c : Cause} (h : e.holdsNo Record.isWaiting k) : e.lapse k c = e := by
  unfold Engine.lapse
  split
  · rename_i rec hk
    rw [h rec hk]
    rfl
  · rfl

theorem revoke_eq_self {k : SlotId} {c : Cause} (h : e.holdsNo Record.isHeld k) : e.revoke k c = e := by
  unfold Engine.revoke
  split
  · rename_i rec hk
    rw [h rec hk]
    rfl
  · rfl

theorem record_lapse_self {k : SlotId} {rec : Record} (hk : e.record k = some rec) (hw : rec.isWaiting = true)
    (c : Cause) : (e.lapse k c).record k = some (rec.lapse c) := by
  simp only [Engine.lapse, hk, hw, if_true, Engine.record_putRecord_self]

/-- A lapsed slot holds no waiter. -/
theorem lapse_not_waiting (e : Engine) (k : SlotId) (c : Cause) : (e.lapse k c).holdsNo Record.isWaiting k := by
  intro x hx
  by_contra hxw
  obtain ⟨rec, hk, hp⟩ := (inPlace_lapse e k c).follows.record hx
  have hw := hp.waiting (Bool.not_eq_false _ ▸ hxw)
  rw [record_lapse_self hk hw, Option.some.injEq] at hx
  subst hx
  exact Bool.eq_false_iff.mp (lapse_dead hw c) (isLive_of_isWaiting (Bool.not_eq_false _ ▸ hxw))

/-- A lapse makes no record held. -/
theorem lapse_not_held {j : SlotId} (h : e.holdsNo Record.isHeld j) (k : SlotId) (c : Cause) :
    (e.lapse k c).holdsNo Record.isHeld j := by
  by_cases hw : ∃ rec, e.record k = some rec ∧ rec.isWaiting = true
  · obtain ⟨rec, hk, hw⟩ := hw
    intro x hx
    by_cases hjk : j = k
    · subst hjk
      rw [record_lapse_self hk hw, Option.some.injEq] at hx
      subst hx
      exact Bool.eq_false_iff.mpr fun hx => Bool.eq_false_iff.mp (lapse_dead hw c) (isLive_of_isHeld hx)
    · obtain ⟨y, hy, -⟩ := (inPlace_lapse e k c).follows.record hx
      have hsame : (e.lapse k c).record j = some y := by
        simp only [Engine.lapse, hk, hw, if_true]
        rw [Engine.record_putRecord, if_neg (Ne.symm hjk)]
        exact leaveQueue_record_of_not_held hy (h y hy)
      rw [hsame, Option.some.injEq] at hx
      rw [← hx]
      exact h y hy
  · rwa [lapse_eq_self fun rec hk => Bool.eq_false_iff.mpr fun hr => hw ⟨rec, hk, hr⟩]

/-- A revoked slot holds no held record, and the revocation of another slot makes none. -/
theorem revoke_holdsNo (e : Engine) (k : SlotId) (c : Cause) :
    (e.revoke k c).holdsNo Record.isHeld k ∧
      ∀ j, e.holdsNo Record.isHeld j → (e.revoke k c).holdsNo Record.isHeld j := by
  by_cases hh : ∃ rec, e.record k = some rec ∧ rec.isHeld = true
  · obtain ⟨rec, hk, hh⟩ := hh
    obtain ⟨hleft, hself⟩ := holderLeft_revoke hk hh c
    have hk' : (e.revoke k c).holdsNo Record.isHeld k := fun x hx => by
      rw [hself, Option.some.injEq] at hx
      subst hx
      exact Bool.eq_false_iff.mpr fun hx => Bool.eq_false_iff.mp (revoke_dead hh c) (isLive_of_isHeld hx)
    refine ⟨hk', fun j hj => ?_⟩
    by_cases hjk : j = k
    · rwa [hjk]
    · intro x hx
      rw [hleft.others j hjk] at hx
      exact hj x hx
  · have hno : e.holdsNo Record.isHeld k := fun rec hk => Bool.eq_false_iff.mpr fun hr => hh ⟨rec, hk, hr⟩
    rw [revoke_eq_self hno]
    exact ⟨hno, fun j hj => hj⟩

/-- After stage 2 no marked slot that held no lease holds a live record (R71). -/
theorem lapseStage_dead {l : List SlotId} {k : SlotId} (hk : k ∈ l) (hh : e.holdsNo Record.isHeld k) :
    (e.lapseStage l).holdsNo Record.isLive k :=
  (inPlace_admissionWhere _ _).holdsNo_live (holdsNo_live_of
    (foldl_invariant (P := Engine.holdsNo Record.isHeld (k := k)) l hh fun _ j _ ha => lapse_not_held ha j .patience)
    (foldl_visits (P := Engine.holdsNo Record.isWaiting) (fun a j => lapse_not_waiting a j .patience)
      (fun a j _ ha => (inPlace_lapse a j .patience).holdsNo_waiting ha) l e k hk))

/-- After stage 3 no marked slot whose record did not wait holds a live record (R72). -/
theorem expireStage_dead {l : List SlotId} {k : SlotId} (hk : k ∈ l) (hw : e.holdsNo Record.isWaiting k) :
    (e.expireStage l).holdsNo Record.isLive k := by
  refine (inPlace_admissionWhere _ _).holdsNo_live (holdsNo_live_of ?_ ?_)
  · by_cases hheld : (e.record k).any Record.isHeld = true
    · exact foldl_visits (P := Engine.holdsNo Record.isHeld) (fun a j => (revoke_holdsNo a j .expired).1)
        (fun a j i ha => (revoke_holdsNo a j .expired).2 i ha) _ e k (List.mem_filter.mpr ⟨hk, hheld⟩)
    · refine foldl_invariant (P := fun a => a.holdsNo Record.isHeld k) _ (fun rec hrec => ?_)
        fun a j _ ha => (revoke_holdsNo a j .expired).2 k ha
      simpa [hrec] using hheld
  · exact foldl_invariant (P := fun a => a.holdsNo Record.isWaiting k) _ hw
      fun a j _ ha => (inPlace_revoke a j .expired).holdsNo_waiting ha

/-- What the countdown makes of a record, by slots (R70). -/
theorem record_countdown (e : Engine) (k : SlotId) :
    e.countdown.record k = (e.record k).map fun rec => rec.countdown (e.defn rec.resource).lead :=
  Engine.record_mapRecords e _ k

/-- A slot marked to lapse holds no lease after the countdown. -/
theorem countdown_not_held {k : SlotId} (hk : k ∈ e.slotsWhere Record.lapses) :
    e.countdown.holdsNo Record.isHeld k := by
  obtain ⟨rec, hrec, hl⟩ := mem_slotsWhere.mp hk
  intro x hx
  rw [record_countdown, hrec, Option.map_some, Option.some.injEq] at hx
  subst hx
  unfold Record.lapses at hl
  split at hl
  · rename_i p hs
    simp only [Record.countdown, hs]
    rfl
  · exact absurd hl nofun

/-- A slot marked to expire holds no waiter after the countdown. -/
theorem countdown_not_waiting {k : SlotId} (hk : k ∈ e.slotsWhere Record.expires) :
    e.countdown.holdsNo Record.isWaiting k := by
  obtain ⟨rec, hrec, hx⟩ := mem_slotsWhere.mp hk
  refine (inPlace_countdown e).holdsNo_waiting fun x hxk => ?_
  rw [hrec, Option.some.injEq] at hxk
  subst hxk
  unfold Record.expires at hx
  split at hx
  · rename_i h hs
    rw [Record.isWaiting, hs]
    rfl
  · exact absurd hx nofun

/-- After the first three stages of a tick nothing is due any more. -/
theorem Engine.Sound.afterExpiries (h : e.Sound ∅ ∅ ∅) : e.afterExpiries.Sound ∅ ∅ ∅ := by
  refine ((h.countdown.lapseStage _).expireStage _).clearDue fun k rec hk hrec => ?_
  rcases hk with hl | hx
  · exact (inPlace_expireStage _ _).holdsNo_live (lapseStage_dead hl (countdown_not_held hl)) rec hrec
  · exact expireStage_dead hx ((inPlace_lapseStage _ _).holdsNo_waiting (countdown_not_waiting hx)) rec hrec

/-! ## Quarantine (R73) -/

/-- A quarantine that counts down to 0 leaves the resource FREE, and admission runs (R73, R106, R109). -/
theorem Engine.Sound.quarantineEnds {r : ResourceId} {q : Nat} (h : e.Sound due ∅ ∅)
    (hs : (e.run r).state = .quarantine q) : ((e.setState r .free).admission r).Sound due ∅ ∅ := by
  have hstands := (h.fits r).stands
  simp only [Run.Stands, hs] at hstands
  exact (h.setState (st := .free) (by rw [hs]; nofun) nofun hstands.1).admission

theorem Engine.Sound.countQuarantine (before : Engine) (h : e.Sound due ∅ ∅) (r : ResourceId) :
    (Engine.countQuarantine before e r).Sound due ∅ ∅ := by
  unfold Engine.countQuarantine
  split
  · rename_i w q hw hs
    split
    · exact h.quarantineEnds hs
    · have hstands := (h.fits r).stands
      simp only [Run.Stands, hs] at hstands
      refine (h.setState (st := .quarantine (q - 1)) (by rw [hs]; nofun) nofun
        ⟨hstands.1, by omega, by omega⟩).settle (Run.settled_of_state (.inr (.inr ⟨q - 1, ?_⟩)))
      rw [Engine.setState, Engine.run_setRun_self]
  · exact h

/-- A tick keeps the laws (R69). -/
theorem Engine.Sound.tick (h : e.Sound ∅ ∅ ∅) : e.tick.Sound ∅ ∅ ∅ :=
  foldl_invariant (P := (Engine.Sound · ∅ ∅ ∅)) _ h.afterExpiries fun _ r _ ha => ha.countQuarantine e r

end Sound

end Sys2Proof.Machine
end

section
/-! PROOF. Renewals, the configuration and the resets keep the laws of the lease engine. -/

namespace Sys2Proof.Machine

section Sound

variable {e : Engine}

/-! ## Renewals and acknowledgements (R79, R131, R144) -/

theorem renewed_touches (e : Engine) {rec : Record} {h : Held} (hs : rec.standing = .held h) (term : Option Nat) :
    rec.Touches (e.renewed rec h term).1 := by
  refine touches_of_held hs ?_ _ _
  rfl

theorem unseen_touches (rec : Record) (u : Unseen) : rec.Touches { rec with unseen := u } :=
  ⟨fun _ => rfl, fun g hg => ⟨g, hg, rfl⟩, rfl⟩

theorem Engine.Sound.renewLine {n : Client} {k : SlotId} {rec : Record} (h : e.Sound ∅ ∅ ∅)
    (hk : e.record k = some rec) : rec.Touches (e.renewLine n rec) ∧
      (e.renewLine n rec).Fits (k ∈ (∅ : Set SlotId)) (e.defn rec.resource) (e.run rec.resource).fence := by
  have hfits := h.records k rec hk
  unfold Engine.renewLine
  split
  · rename_i g hs
    split
    · exact ⟨renewed_touches e hs none, renewed_fits hfits hs (h.profileOf_valid _) nofun⟩
    · exact ⟨.refl rec, hfits⟩
  · exact ⟨.refl rec, hfits⟩

theorem Engine.Sound.renewAll (h : e.Sound ∅ ∅ ∅) (n : Client) : (e.renewAll n).Sound ∅ ∅ ∅ := by
  unfold Engine.renewAll
  split
  · exact h.mapRecords fun _ _ hk => h.renewLine hk
  · exact h

/-! ## Definitions and profiles (R26, R88, R96, R174) -/

/-- The law of R89 says the same of an OFFLINE resource under every profile. -/
theorem Run.Banded.of_offline {p p' : Profile} {x : Run} (h : x.Banded p) (ho : x.state = .offline) : x.Banded p' := by
  unfold Run.Banded at h ⊢
  rwa [if_pos ho] at h ⊢

/-- Every record that names an OFFLINE resource is a tombstone. -/
theorem Engine.Sound.dead_of_offline {r : ResourceId} {k : SlotId} {rec : Record} (h : e.Sound ∅ ∅ ∅)
    (ho : (e.run r).state = .offline) (hk : e.record k = some rec) (hr : rec.resource = r) : rec.isLive = false := by
  by_contra hl
  have hnone := (h.fits r).no_claim ho k
  rw [claimsOn_some.mpr ⟨rec, hk, hr, Bool.not_eq_false _ ▸ hl, rfl⟩] at hnone
  exact absurd hnone nofun

theorem Engine.Sound.setDefn {r : ResourceId} {d : Definition} (h : e.Sound ∅ ∅ ∅) (ho : (e.run r).state = .offline)
    (hd : d.valid r = true) : (e.setDefn r d).Sound ∅ ∅ ∅ := by
  have hself : (e.setDefn r d).defn r = d := by rw [Engine.defn_setDefn, if_pos rfl]
  have hother : ∀ q, q ≠ r → (e.setDefn r d).defn q = e.defn q := fun q hq => by
    rw [Engine.defn_setDefn, if_neg (Ne.symm hq)]
  have hprof : ∀ q, q ≠ r → (e.setDefn r d).profileOf q = e.profileOf q := fun q hq => by
    rw [Engine.profileOf, hother q hq]
    rfl
  have hclaims : ∀ q, (e.setDefn r d).claimsOn q = e.claimsOn q := fun _ => rfl
  refine ⟨h.profiles, fun q => ?_, fun k rec hk => ?_, h.fences, fun q => ?_, fun q => ?_, fun q _ => ?_, fun q _ => ?_⟩
  · by_cases hq : q = r
    · subst hq
      rwa [hself]
    · rw [hother q hq]
      exact h.defns q
  · rw [Engine.run_setDefn]
    by_cases hr : rec.resource = r
    · exact (h.records k rec hk).of_dead (h.dead_of_offline ho hk hr)
    · rw [hother _ hr]
      exact h.records k rec hk
  · rw [Engine.run_setDefn, hclaims]
    by_cases hq : q = r
    · subst hq
      have hfit := h.fits q
      have hstands := hfit.stands
      simp only [Run.Stands, ho] at hstands
      exact Run.fits_offline ho hstands.1 hstands.2 hfit.fence (hfit.no_claim ho)
    · rw [hother q hq]
      exact h.fits q
  · rw [Engine.run_setDefn]
    exact h.bands q
  · rw [Engine.run_setDefn]
    have hband := h.ruled q (Set.notMem_empty q)
    by_cases hq : q = r
    · exact hband.of_offline (by rw [hq, ho])
    · rwa [hprof q hq]
  · rw [Engine.run_setDefn, hclaims]
    by_cases hq : q = r
    · exact Run.settled_of_state (.inl (by rw [hq, ho]))
    · rw [hother q hq]
      exact h.settled q (Set.notMem_empty q)

/-- A new profile leaves to the band rule each resource that names it and is not OFFLINE (R96). -/
theorem Engine.Sound.setProfile {p : Fin 4} {x : Profile} (h : e.Sound ∅ ∅ ∅) (hx : x.valid = true) :
    (e.setProfile p x).Sound ∅ ∅ {r | (e.defn r).profile = p ∧ (e.run r).state ≠ .offline} := by
  have hget : ∀ q, Table.get (e.setProfile p x).profiles q = if p = q then x else Table.get e.profiles q := fun q =>
    Table.get_put _ _ _ _
  refine ⟨fun q => ?_, h.defns, h.records, h.fences, h.fits, h.bands, fun r hr => ?_, h.settled⟩
  · rw [hget]
    split
    · exact hx
    · exact h.profiles q
  · have hband := h.ruled r (Set.notMem_empty r)
    change (e.run r).Banded (Table.get (e.setProfile p x).profiles (e.defn r).profile)
    by_cases hp : (e.defn r).profile = p
    · exact hband.of_offline (by_contra fun ho => hr ⟨hp, ho⟩)
    · rw [hget, if_neg (Ne.symm hp)]
      exact hband

/-- The band rule run for each resource left to it. -/
theorem Engine.Sound.bandRules {l : List ResourceId} {unruled : Set ResourceId} (h : e.Sound ∅ ∅ unruled)
    (hl : ∀ r, r ∈ unruled → r ∈ l) (hon : ∀ r, r ∈ l → (e.run r).state ≠ .offline) :
    (l.foldl Engine.bandRule e).Sound ∅ ∅ ∅ := by
  induction l generalizing e unruled with
  | nil => exact h.weaken subset_rfl subset_rfl fun r hr => absurd (hl r hr) List.not_mem_nil
  | cons r l ih =>
    have hone : e.Sound ∅ ∅ (insert r {q | q ∈ unruled ∧ q ≠ r}) := h.weaken subset_rfl subset_rfl fun q hq => by
      by_cases hqr : q = r
      · exact Set.mem_insert_iff.mpr (.inl hqr)
      · exact Set.mem_insert_iff.mpr (.inr ⟨hq, hqr⟩)
    refine ih (hone.bandRule (hon r List.mem_cons_self)) (fun q hq => ?_) fun q hq => ?_
    · exact (List.mem_cons.mp (hl q hq.1)).resolve_left hq.2
    · rw [bandRule_state]
      exact hon q (List.mem_cons_of_mem r hq)

theorem Engine.Sound.profiled {p : Fin 4} {x : Profile} (h : e.Sound ∅ ∅ ∅) (hx : x.valid = true) :
    ((e.setProfile p x).rerunBands p).Sound ∅ ∅ ∅ := by
  refine (h.setProfile hx).bandRules (fun r hr => ?_) fun r hr => ?_
  · exact List.mem_filter.mpr ⟨List.mem_finRange r, decide_eq_true hr⟩
  · exact (of_decide_eq_true (List.mem_filter.mp hr).2).2

/-- A resource that is brought online is FREE, and admission finds nobody waiting (R30, R177). -/
theorem Engine.Sound.online {r : ResourceId} (h : e.Sound ∅ ∅ ∅) (ho : (e.run r).state = .offline)
    (hd : (e.defn r).defined = true) (hs : (e.run r).spent = false) :
    ((e.setRun r (e.run r).online).admission r).Sound ∅ ∅ ∅ := by
  have hfits : (e.run r).online.Fits (e.defn r) (e.claimsOn r) :=
    Run.fits_free rfl rfl rfl (h.fits r).fence hd hs ((h.fits r).no_claim ho)
  refine ((h.setRun (x := (e.run r).online) le_rfl hfits ⟨Nat.zero_le _, nofun⟩).rule ?_).admission
  rw [Engine.run_setRun_self, Engine.profileOf_setRun]
  exact banded_zero (h.profileOf_valid r) rfl rfl

/-! ## An empty table: the resets, entry to SAFE, the end of a load (R31, R170, R188, R189) -/

/-- A resource without holders or waiters, OFFLINE, or FREE where it may be. -/
structure Run.Bare (d : Definition) (x : Run) : Prop where
  holders : x.holders = 0
  band : x.band = 0
  queue : x.queue = []
  fence : x.fence ≤ Config.fenceMax
  state : x.state = .offline ∨ (x.state = .free ∧ d.defined = true ∧ x.spent = false)

theorem sound_of_bare (hempty : e.empty) (hp : ∀ p, (Table.get e.profiles p).valid = true)
    (hd : ∀ r, (e.defn r).valid r = true) (hr : ∀ r, (e.run r).Bare (e.defn r)) : e.Sound ∅ ∅ ∅ := by
  have hclaims : ∀ r k, e.claimsOn r k = none := fun r k => claimsOn_none fun rec hk => by
    rw [hempty k] at hk
    exact absurd hk nofun
  have hnone : ∀ k rec, e.record k ≠ some rec := fun k rec hk => by
    rw [hempty k] at hk
    exact absurd hk nofun
  refine ⟨hp, hd, fun k rec hk => absurd hk (hnone k rec), fun j _ x _ _ _ _ hj => absurd hj (hnone j x), fun r => ?_,
    fun r => ⟨by rw [(hr r).band]; exact Nat.zero_le _, fun _ => (hr r).band⟩,
    fun r _ => banded_zero (hp _) (hr r).band (hr r).queue, fun r _ => ?_⟩
  · rcases (hr r).state with ho | ⟨hf, hdef, hs⟩
    · exact Run.fits_offline ho (hr r).holders (hr r).queue (hr r).fence (hclaims r)
    · exact Run.fits_free hf (hr r).holders (hr r).queue (hr r).fence hdef hs (hclaims r)
  · rcases (hr r).state with ho | ⟨hf, -, -⟩
    · exact Run.settled_of_state (.inl ho)
    · simp only [Run.Settled, hf]
      exact (hr r).queue

theorem bare_offline {d : Definition} {x : Run} (hf : x.fence ≤ Config.fenceMax) : x.offline.Bare d :=
  ⟨rfl, rfl, rfl, hf, .inl rfl⟩

theorem bare_online {d : Definition} {x : Run} (hf : x.fence ≤ Config.fenceMax) (hd : d.defined = true)
    (hs : x.spent = false) : x.online.Bare d :=
  ⟨rfl, rfl, rfl, hf, .inr ⟨rfl, hd, hs⟩⟩

/-- A resource that is not OFFLINE is defined and not spent (R27, R35). -/
theorem Run.Fits.defined {d : Definition} {v : Claims} {x : Run} (h : x.Fits d v) (hon : x.state ≠ .offline) :
    d.defined = true ∧ x.spent = false :=
  ⟨Bool.not_eq_false _ ▸ fun hd => hon (h.online (.inl hd)), Bool.eq_false_iff.mpr fun hs => hon (h.online (.inr hs))⟩

theorem bare_emptied {d : Definition} {v : Claims} {x : Run} (h : x.Fits d v) : x.emptied.Bare d := by
  unfold Run.emptied
  split
  · exact bare_offline h.fence
  · rename_i hon
    obtain ⟨hd, hs⟩ := h.defined hon
    exact bare_online h.fence hd hs

theorem Engine.Sound.emptied (h : e.Sound ∅ ∅ ∅) : e.emptied.Sound ∅ ∅ ∅ := by
  have hdefn : ∀ r, e.emptied.defn r = e.defn r := fun r => by
    simp [Engine.emptied, Engine.mapRuns, Engine.closeAll, Engine.freeAll, Engine.defn]
  refine sound_of_bare (empty_of_freed (slot_emptied e)) h.profiles (fun r => ?_) fun r => ?_
  · rw [hdefn]
    exact h.defns r
  · rw [hdefn, show e.emptied.run r = (e.run r).emptied by
      simp [Engine.emptied, Engine.mapRuns, Engine.closeAll, Engine.freeAll, Engine.run]]
    exact bare_emptied (h.fits r)

theorem Engine.Sound.pinReset (h : e.Sound ∅ ∅ ∅) : e.pinReset.Sound ∅ ∅ ∅ := by
  have hdefn : ∀ r, e.pinReset.defn r = e.defn r := fun r => by
    simp [Engine.pinReset, Engine.mapRuns, Engine.closeAll, Engine.freeAll, Engine.defn]
  refine sound_of_bare (empty_of_freed (slot_pinReset e)) h.profiles (fun r => ?_) fun r => ?_
  · rw [hdefn]
    exact h.defns r
  · rw [hdefn, show e.pinReset.run r = (e.run r).offline by
      simp [Engine.pinReset, Engine.mapRuns, Engine.closeAll, Engine.freeAll, Engine.run]]
    exact bare_offline (h.fits r).fence

theorem loadedDefinition_valid (image : Option Memory) (r : ResourceId) :
    (loadedDefinition image r).valid r = true := by
  unfold loadedDefinition
  cases hd : image.bind fun m => definitionOf r.val (m.definitionByte r) with
  | none => rfl
  | some d =>
    obtain ⟨m, -, hm⟩ := Option.bind_eq_some_iff.mp hd
    exact valid_of_definitionOf hm fun i => (m.read _).isLt

theorem loadedProfile_valid (image : Option Memory) (p : Fin 4) : (loadedProfile image p).valid = true := by
  unfold loadedProfile
  cases hp : (image.map fun m => profileOf (m.profileByte p)).filter Profile.valid with
  | none => rfl
  | some x => exact (Option.filter_eq_some_iff.mp hp).2

theorem bare_loaded {d : Definition} {x : Run} (hf : x.fence ≤ Config.fenceMax) : (x.loaded d).Bare d := by
  unfold Run.loaded
  split
  · rename_i hon
    exact bare_online hf hon.1 (Bool.not_eq_true _ ▸ hon.2.2)
  · exact bare_offline hf

theorem Engine.Sound.loaded (h : e.Sound ∅ ∅ ∅) (hempty : e.empty) (image : Option Memory) (f : Faults) :
    Engine.Sound { e.loaded image with faults := f } ∅ ∅ ∅ := by
  have hdefn : ∀ r, (e.loaded image).defn r = loadedDefinition image r := fun r => by
    rw [Engine.defn, Engine.loaded, Table.get_tab]
  refine sound_of_bare hempty (fun p => ?_) (fun r => ?_) fun r => ?_
  · change (Table.get (e.loaded image).profiles p).valid = true
    rw [Engine.loaded, Table.get_tab]
    exact loadedProfile_valid image p
  · change ((e.loaded image).defn r).valid r = true
    rw [hdefn]
    exact loadedDefinition_valid image r
  · change ((e.loaded image).run r).Bare ((e.loaded image).defn r)
    rw [hdefn, show (e.loaded image).run r = (e.run r).loaded (loadedDefinition image r) by
      rw [Engine.run, Engine.loaded, Table.get_tab]]
    exact bare_loaded (h.fits r).fence

end Sound

end Sys2Proof.Machine
end

section
/-! PROOF. Every step keeps the laws of the lease table and of the resources. -/

namespace Sys2Proof.Machine

/-! ## Every happening keeps the laws of records and resources -/

/-- What a happening makes of an engine that keeps the laws; a load ends on an empty table. -/
theorem Engine.Yields.sound {e e' : Engine} {loading : Prop} {who : Option Client} (hy : e.Yields loading who e')
    (h : e.Sound ∅ ∅ ∅) (hload : loading → e.empty) : e'.Sound ∅ ∅ ∅ := by
  have hloosen : ∀ r, e.Sound ∅ (insert r ∅) ∅ := fun r => h.loosen (Set.empty_subset _)
  have hself : ∀ {k : SlotId} {rec x : Record}, e.record k = some rec → e.record k = some x →
      x.resource ∈ (insert rec.resource ∅ : Set ResourceId) := fun hk hx => by
    rw [hk, Option.some.injEq] at hx
    exact Set.mem_insert_iff.mpr (.inl (by rw [hx]))
  cases hy with
  | unchanged => exact h
  | faults f => exact h.congr (fun _ => rfl) rfl rfl
  | opens n => exact h.congr (fun _ => rfl) rfl rfl
  | reopens n => exact (h.endSession n).congr (fun _ => rfl) rfl rfl
  | closes n => exact (h.endSession n).congr (fun _ => rfl) rfl rfl
  | granted ho ha hr hk hg hf => exact h.grantAtOnce (mayAcquire ha hr) (firstFree_record hk) hg hf
  | exhausted n hf => exact (hloosen _).exhaust
  | joined ho ha hr hk hg => exact h.join (mayAcquire ha hr) (firstFree_record hk) hg
  | renewed hk hs ht =>
    exact h.putRecord hk (renewed_touches e hs _) (renewed_fits (h.records _ _ hk) hs (h.profileOf_valid _) ht)
  | released hk hs =>
    exact ((hloosen _).holderFreed hk (isHeld_of_standing hs) (holderLeft_depart e _ _) (Set.mem_insert _ _)).admission
  | cancelled hk hs => exact ((hloosen _).waiterFreed hk (isWaiting_of_standing hs) (Set.mem_insert _ _)).admission
  | discarded hk hs => exact h.deadFreed fun x hx => by rw [hk, Option.some.injEq] at hx; rwa [← hx]
  | acknowledged hk hs => exact h.putRecord hk (unseen_touches _ _) (acknowledged_fits (h.records _ _ hk) hs)
  | forced hk hs => exact ((hloosen _).revoke (.inr (.inl rfl)) fun x hx _ => hself hk hx).admission
  | dropped hk hs => exact ((hloosen _).lapse (.inr (.inl rfl)) fun x hx _ => hself hk hx).admission
  | defined ho hd => exact h.setDefn ho hd
  | profiled hx => exact h.profiled hx
  | quota n q => exact h.congr (fun _ => rfl) rfl rfl
  | bars n => exact (h.barSession n).congr (fun _ => rfl) rfl rfl
  | unbars hb => exact h.congr (fun _ => rfl) rfl rfl
  | lifted hs => exact h.quarantineEnds hs
  | takenDown r => exact (hloosen r).takeDown
  | online ho hd hs => exact h.online ho hd hs
  | emptied f =>
    have hf : Engine.Sound { e with faults := f } ∅ ∅ ∅ := h.congr (fun _ => rfl) rfl rfl
    exact hf.emptied
  | renewedAll n => exact h.renewAll n
  | ticked => exact h.tick
  | pinReset => exact h.pinReset
  | loaded hl image f => exact h.loaded (hload hl) image f

/-! ## Generations and live records (R2, R52) -/

theorem generation_of_follows {x y : Slot} (h : x.Follows y) (hx : x.generation < Config.generations) :
    y.generation < Config.generations := by
  rcases h with ⟨hg, -⟩ | hf
  · rwa [hg]
  · rw [hf, Slot.freed_eq]
    simp only
    split
    · exact hx
    · exact Nat.mod_lt _ (by decide)

theorem Engine.Yields.generationLaw {e e' : Engine} {loading : Prop} {who : Option Client}
    (hy : e.Yields loading who e') (h : e.generationLaw) : e'.generationLaw := fun k => by
  rcases hy.follows_or_creates with hf | ⟨j, hj⟩
  · exact generation_of_follows (hf k) (h k)
  · rw [hj.generation k]
    exact h k

/-- No client has two live records on one resource (R52). -/
def Engine.LiveOnce (e : Engine) : Prop :=
  ∀ j k x y, j ≠ k → e.record j = some x → e.record k = some y → x.isLive = true → y.isLive = true →
    x.client = y.client → x.resource ≠ y.resource

theorem liveLaw_iff (e : Engine) : e.liveLaw ↔ e.LiveOnce := by
  constructor
  · intro h j k x y hjk hj hk hx hy hc
    have := h j k hjk
    simpa [hj, hk, hx, hy, hc] using this
  · intro h j k hjk
    cases hj : e.record j with
    | none => rfl
    | some x =>
      cases hk : e.record k with
      | none => rfl
      | some y =>
        have := h j k x y hjk hj hk
        simp only [Option.all_some, Bool.not_eq_true', Bool.and_eq_false_iff, decide_eq_false_iff_not]
        by_contra hall
        push Not at hall
        obtain ⟨⟨⟨hx, hy⟩, hc⟩, hr⟩ := hall
        exact this (Bool.not_eq_false _ ▸ hx) (Bool.not_eq_false _ ▸ hy) hc hr

theorem Engine.Follows.liveOnce {e e' : Engine} (h : e.Follows e') (hl : e.LiveOnce) : e'.LiveOnce := by
  intro j k x y hjk hj hk hx hy hc hr
  obtain ⟨x₀, hj₀, hpx⟩ := h.record hj
  obtain ⟨y₀, hk₀, hpy⟩ := h.record hk
  exact hl j k x₀ y₀ hjk hj₀ hk₀ (hpx.live hx) (hpy.live hy) (by rw [← hpx.claim.1, hc, hpy.claim.1])
    (by rw [← hpx.claim.2.1, hr, hpy.claim.2.1])

/-- Where client `n` has no live record on `r`, the record made in slot `k` is its only one (R52). -/
theorem Engine.Creates.liveOnce {e e' : Engine} {k : SlotId} {n : Client} {r : ResourceId} (h : e.Creates e' k)
    (hnew : ∀ rec, e'.record k = some rec → rec.client = n ∧ rec.resource = r) (hno : ∀ j, ¬ e.liveAt n r j)
    (hl : e.LiveOnce) : e'.LiveOnce := by
  have hback : ∀ {j x}, j ≠ k → e'.record j = some x → ∃ x₀, e.record j = some x₀ ∧ x₀.Persists x := by
    intro j x hj hx
    have hr := h.others j hj
    rw [hx] at hr
    generalize hx₀ : e.record j = o at hr
    cases hr with
    | some hp => exact ⟨_, rfl, hp⟩
  have halone : ∀ {j x}, j ≠ k → e'.record j = some x → x.isLive = true → x.client = n → x.resource ≠ r := by
    intro j x hj hx hlive hc hr
    obtain ⟨x₀, hx₀, hp⟩ := hback hj hx
    refine hno j ?_
    simp [Engine.liveAt, hx₀, ← hp.claim.1, ← hp.claim.2.1, hc, hr, hp.live hlive]
  intro i j x y hij hi hj hx hy hc hr
  by_cases hik : i = k
  · subst hik
    obtain ⟨hn, hres⟩ := hnew x hi
    exact halone (Ne.symm hij) hj hy (by rw [← hc, hn]) (by rw [← hr, hres])
  · by_cases hjk : j = k
    · subst hjk
      obtain ⟨hn, hres⟩ := hnew y hj
      exact halone hik hi hx (by rw [hc, hn]) (by rw [hr, hres])
    · obtain ⟨x₀, hx₀, hpx⟩ := hback hik hi
      obtain ⟨y₀, hy₀, hpy⟩ := hback hjk hj
      exact hl i j x₀ y₀ hij hx₀ hy₀ (hpx.live hx) (hpy.live hy) (by rw [← hpx.claim.1, hc, hpy.claim.1])
        (by rw [← hpx.claim.2.1, hr, hpy.claim.2.1])

theorem record_grantAtOnce_self (e : Engine) (n : Client) (r : ResourceId) (a : AcquireArgs) (k : SlotId) :
    (e.grantAtOnce n r a k).record k = some (a.record n r (.held (e.immediateHeld r a))) :=
  Engine.record_putRecord_self (e.joinHolders r a.mode) k _

theorem follows_join (e : Engine) (n : Client) (r : ResourceId) (a : AcquireArgs) (k : SlotId) :
    (e.create k (a.record n r (.waiting (patienceOf a.patience)))).Follows (e.join n r a k) := by
  have h := fun q => (inPlace_setRun (e.create k (a.record n r (.waiting (patienceOf a.patience)))) r q).trans
    (inPlace_bandRule _ r)
  unfold Engine.join
  simp only
  split
  · exact ((h _).trans (inPlace_setState _ _ _)).follows
  · exact (h _).follows

/-- An ACQUIRE that is not refused names a resource on which its client has no live record (R51, R52). -/
theorem not_liveAt_of_acquire {e : Engine} {n : Client} {r : ResourceId} {a : AcquireArgs}
    (h : e.acquireRefusal n r a = none) (k : SlotId) : ¬ e.liveAt n r k := by
  have hnone : e.firstWhere (Record.liveOf n r) = none := by
    unfold Engine.acquireRefusal at h
    by_contra hsome
    obtain ⟨j, hj⟩ := Option.ne_none_iff_exists'.mp hsome
    simp only [hj] at h
    split_ifs at h
  have hk := (firstWhere_none e _).mp hnone k
  exact Bool.eq_false_iff.mp hk

theorem Engine.Yields.liveOnce {e e' : Engine} {loading : Prop} {who : Option Client} (hy : e.Yields loading who e')
    (h : e.LiveOnce) : e'.LiveOnce := by
  rcases hy.follows_or_acquires with hf | ⟨n, r, a, k, hr, hk, rfl | rfl⟩
  · exact hf.liveOnce h
  · refine (creates_grantAtOnce hk n r a).liveOnce (fun rec hrec => ?_) (not_liveAt_of_acquire hr) h
    rw [record_grantAtOnce_self, Option.some.injEq] at hrec
    subst hrec
    exact ⟨rfl, rfl⟩
  · refine (creates_join hk n r a).liveOnce (fun rec hrec => ?_) (not_liveAt_of_acquire hr) h
    obtain ⟨x, hx, hp⟩ := (follows_join e n r a k).record hrec
    rw [show (e.create k _).record k = _ from Engine.record_putRecord_self e k _, Option.some.injEq] at hx
    subst hx
    exact ⟨hp.claim.1, hp.claim.2.1⟩

/-! ## O53 and O54 -/

theorem lawful_sound {s : State} (h : s.lawful) : s.engine.Sound ∅ ∅ ∅ := by
  obtain ⟨⟨-, -, -, -, -, hrange, hwarn, hnotice, hholder, hqueue, hstanding, hline, honline, hband, hfence⟩,
    ⟨hdefns, hprofiles, -⟩, -⟩ := h
  exact (sound_iff s.engine).mpr ⟨⟨hprofiles, hdefns⟩, ⟨hrange, hwarn, hnotice, hline⟩,
    ⟨hholder, hqueue, hstanding, honline⟩, hband, hfence⟩

/-- A load stands only in STARTING, and there every slot is FREE (R23, R187). -/
theorem lawful_empty_of_load {s : State} (h : s.lawful) (hl : s.load.isSome = true) : s.engine.empty := by
  obtain ⟨-, -, hphase, hrest, -⟩ := h
  refine (hrest (.inl ?_)).1
  by_contra hp
  simp only [State.phaseLaw, if_neg hp, hl, Bool.toNat_true] at hphase
  omega

/-- What a step from a lawful state leaves of the engine: its laws, whole. -/
theorem step_engine_lawful {s t : State} (h : s.lawful) (hstep : step s = .next t) : t.engine.lawful := by
  rcases step_yields hstep with ⟨who, hy⟩ | hreset
  · have hsound := hy.sound (lawful_sound h) (lawful_empty_of_load h)
    obtain ⟨⟨hcount, hsession, hepoch, hgeneration, hlive, -⟩, -⟩ := h
    obtain ⟨hcount', hsession', hepoch'⟩ :=
      (accounted_iff _).mp (hy.accounted ((accounted_iff _).mpr ⟨hcount, hsession, hepoch⟩))
    have hlive' := (liveLaw_iff _).mpr (hy.liveOnce ((liveLaw_iff _).mp hlive))
    obtain ⟨-, ⟨hrange, hwarn, hnotice, hline⟩, ⟨hholder, hqueue, hstanding, honline⟩, hband, hfence⟩ :=
      (sound_iff _).mp hsound
    exact ⟨hcount', hsession', hepoch', hy.generationLaw hgeneration, hlive', hrange, hwarn, hnotice, hholder, hqueue,
      hstanding, hline, honline, hband, hfence⟩
  · rw [hreset]
    exact reset_engine_lawful

/-- Settles O53, by what each happening makes of the engine. -/
theorem everyStepKeepsTheLeaseTableLaws : Obligations.EveryStepKeepsTheLeaseTableLaws := by
  intro s t h hstep
  obtain ⟨hcount, hsession, hepoch, hgeneration, hlive, hrange, hwarn, hnotice, -⟩ := step_engine_lawful h hstep
  exact ⟨hcount, hsession, hepoch, hgeneration, hlive, hrange, hwarn, hnotice⟩

/-- Settles O54, by what each happening makes of the engine. -/
theorem everyStepKeepsTheResourceLaws : Obligations.EveryStepKeepsTheResourceLaws := by
  intro s t h hstep
  obtain ⟨-, -, -, -, -, -, -, -, hholder, hqueue, hstanding, hline, honline, hband, hfence⟩ :=
    step_engine_lawful h hstep
  exact ⟨hholder, hqueue, hstanding, hline, honline, hband, hfence⟩

end Sys2Proof.Machine
end

section
/-! PROOF. A wait queue changes by records that leave it and by one that joins at its tail (R44, R45). -/

namespace Sys2Proof.Machine

/-- Every queue has only lost records: those that stay keep their order. -/
def Engine.KeepsOrder (e e' : Engine) : Prop := ∀ r, (e'.run r).queue.Sublist (e.run r).queue

theorem keepsOrder_refl (e : Engine) : e.KeepsOrder e := fun _ => List.Sublist.refl _

theorem Engine.KeepsOrder.trans {a b c : Engine} (h : a.KeepsOrder b) (h' : b.KeepsOrder c) : a.KeepsOrder c :=
  fun r => (h' r).trans (h r)

/-- An operation that leaves every run record, or every queue at least, as it was. -/
theorem keepsOrder_of_queue {e e' : Engine} (h : ∀ r, (e'.run r).queue = (e.run r).queue) : e.KeepsOrder e' :=
  fun r => by rw [h r]

theorem keepsOrder_of_resources {e e' : Engine} (h : e'.resources = e.resources) : e.KeepsOrder e' :=
  keepsOrder_of_queue fun r => by rw [run_of_resources h]

/-- An operation after which no record waits. -/
theorem keepsOrder_of_empty {e e' : Engine} (h : ∀ r, (e'.run r).queue = []) : e.KeepsOrder e' :=
  fun r => by rw [h r]; exact List.nil_sublist _

theorem keepsOrder_foldl {β : Type} {f : Engine → β → Engine} (hf : ∀ (e : Engine) b, e.KeepsOrder (f e b))
    (l : List β) (e : Engine) : e.KeepsOrder (l.foldl f e) :=
  foldl_invariant (P := e.KeepsOrder) l (keepsOrder_refl e) fun a b _ h => h.trans (hf a b)

/-! ## Operations of the engine -/

theorem keepsOrder_setRun (e : Engine) (r : ResourceId) {x : Run} (h : x.queue.Sublist (e.run r).queue) :
    e.KeepsOrder (e.setRun r x) := by
  intro q
  rw [Engine.run_setRun]
  split
  · rename_i hq
    rwa [← hq]
  · exact List.Sublist.refl _

theorem keepsOrder_setState (e : Engine) (r : ResourceId) (st : ResourceState) : e.KeepsOrder (e.setState r st) :=
  keepsOrder_setRun e r (List.Sublist.refl _)

theorem keepsOrder_depart (e : Engine) (r : ResourceId) (m : Mode) : e.KeepsOrder (e.depart r m) :=
  keepsOrder_setRun e r (List.Sublist.refl _)

theorem keepsOrder_bandRule (e : Engine) (r : ResourceId) : e.KeepsOrder (e.bandRule r) :=
  keepsOrder_of_queue fun q => bandRule_queue e r q

/-- A record that leaves lets those behind it close the gap (R45). -/
theorem keepsOrder_leaveQueue (e : Engine) (r : ResourceId) (k : SlotId) : e.KeepsOrder (e.leaveQueue r k) :=
  (keepsOrder_setRun e r (x := { e.run r with queue := (e.run r).queue.erase k }) List.erase_sublist).trans
    (keepsOrder_bandRule _ r)

theorem keepsOrder_takeDown (e : Engine) (r : ResourceId) : e.KeepsOrder (e.takeDown r) :=
  keepsOrder_setRun (e.mapRecords _) r (List.nil_sublist _)

theorem keepsOrder_exhaust (e : Engine) (r : ResourceId) : e.KeepsOrder (e.exhaust r) :=
  (keepsOrder_takeDown e r).trans (keepsOrder_setRun _ r (List.Sublist.refl _))

theorem keepsOrder_freeSlot (e : Engine) (k : SlotId) : e.KeepsOrder (e.freeSlot k) :=
  keepsOrder_of_resources (resources_freeSlot e k)

theorem keepsOrder_grantHead (e : Engine) (r : ResourceId) (k : SlotId) (rec : Record) :
    e.KeepsOrder (e.grantHead r k rec) := by
  unfold Engine.grantHead
  split
  · exact keepsOrder_exhaust e r
  · exact (keepsOrder_leaveQueue e r k).trans (keepsOrder_setRun (e.leaveQueue r k) r (List.Sublist.refl _))

theorem keepsOrder_admission (e : Engine) (r : ResourceId) : e.KeepsOrder (e.admission r) :=
  admitPasses_induct (P := e.KeepsOrder) (fun _ _ _ h => h.trans (keepsOrder_setState _ _ _))
    (fun _ _ _ _ h => h.trans (keepsOrder_grantHead _ _ _ _)) _ (keepsOrder_refl e)

theorem keepsOrder_admissionWhere (e : Engine) (p : ResourceId → Bool) : e.KeepsOrder (e.admissionWhere p) :=
  keepsOrder_foldl keepsOrder_admission _ e

theorem keepsOrder_revoke (e : Engine) (k : SlotId) (c : Cause) : e.KeepsOrder (e.revoke k c) := by
  unfold Engine.revoke
  split
  · rename_i rec _
    split
    · have hleft : e.KeepsOrder ((e.putRecord k (rec.revoke c)).depart rec.resource rec.mode) :=
        keepsOrder_depart (e.putRecord k _) _ _
      simp only
      split
      · exact hleft.trans (keepsOrder_setState _ _ _)
      · exact hleft
    · exact keepsOrder_refl e
  · exact keepsOrder_refl e

theorem keepsOrder_lapse (e : Engine) (k : SlotId) (c : Cause) : e.KeepsOrder (e.lapse k c) := by
  unfold Engine.lapse
  split
  · split
    · exact keepsOrder_leaveQueue e _ k
    · exact keepsOrder_refl e
  · exact keepsOrder_refl e

/-! ## The end of a session, and a tick -/

/-- A record that ends leaves the queue it stands in: `left` is the engine that its holder leaves behind. -/
theorem keepsOrder_recordEnds {e left : Engine} (hleft : e.KeepsOrder left) (k : SlotId) (rec : Record) :
    e.KeepsOrder (if rec.isHeld then left.freeSlot k
      else if rec.isWaiting then (e.leaveQueue rec.resource k).freeSlot k else e.freeSlot k) := by
  split
  · exact hleft.trans (keepsOrder_freeSlot _ k)
  · split
    · exact (keepsOrder_leaveQueue e _ k).trans (keepsOrder_freeSlot _ k)
    · exact keepsOrder_freeSlot e k

theorem keepsOrder_endRecord (n : Client) (e : Engine) (k : SlotId) : e.KeepsOrder (e.endRecord n k) := by
  unfold Engine.endRecord
  split
  · split
    · exact keepsOrder_recordEnds (keepsOrder_depart e _ _) k _
    · exact keepsOrder_refl e
  · exact keepsOrder_refl e

theorem keepsOrder_barRecord (n : Client) (e : Engine) (k : SlotId) : e.KeepsOrder (e.barRecord n k) := by
  unfold Engine.barRecord
  split
  · split
    · exact keepsOrder_recordEnds (keepsOrder_revoke e k _) k _
    · exact keepsOrder_refl e
  · exact keepsOrder_refl e

theorem keepsOrder_endSession (e : Engine) (n : Client) : e.KeepsOrder (e.endSession n) :=
  (keepsOrder_foldl (keepsOrder_endRecord n) _ e).trans (keepsOrder_admissionWhere _ _)

theorem keepsOrder_barSession (e : Engine) (n : Client) : e.KeepsOrder (e.barSession n) :=
  (keepsOrder_foldl (keepsOrder_barRecord n) _ e).trans (keepsOrder_admissionWhere _ _)

theorem keepsOrder_countQuarantine (before e : Engine) (r : ResourceId) :
    e.KeepsOrder (Engine.countQuarantine before e r) := by
  unfold Engine.countQuarantine
  split
  · split
    · exact (keepsOrder_setState _ _ _).trans (keepsOrder_admission _ _)
    · exact keepsOrder_setState _ _ _
  · exact keepsOrder_refl e

theorem keepsOrder_tick (e : Engine) : e.KeepsOrder e.tick := by
  have hcountdown : e.KeepsOrder e.countdown := keepsOrder_of_resources rfl
  have hlapses : e.countdown.KeepsOrder e.afterLapses :=
    (keepsOrder_foldl (fun a k => keepsOrder_lapse a k .patience) _ _).trans (keepsOrder_admissionWhere _ _)
  have hexpiries : e.afterLapses.KeepsOrder e.afterExpiries :=
    (keepsOrder_foldl (fun a k => keepsOrder_revoke a k .expired) _ _).trans (keepsOrder_admissionWhere _ _)
  exact ((hcountdown.trans hlapses).trans hexpiries).trans (keepsOrder_foldl (keepsOrder_countQuarantine e) _ _)

/-! ## The resets and the load -/

theorem queue_emptied (e : Engine) (r : ResourceId) : (e.emptied.run r).queue = [] := by
  rw [emptied_eq, Engine.run, Engine.cleared, Table.get_tab]

theorem queue_pinReset (e : Engine) (r : ResourceId) : (e.pinReset.run r).queue = [] := by
  simp only [Engine.run, Engine.pinReset, Engine.mapRuns, Table.get_tab, Run.offline]

theorem queue_loaded (e : Engine) (image : Option Memory) (r : ResourceId) : ((e.loaded image).run r).queue = [] := by
  have hrun : (e.loaded image).run r = (e.run r).loaded (loadedDefinition image r) := by
    simp only [Engine.run, Engine.loaded, Table.get_tab]
  rw [hrun, Run.loaded]
  split <;> rfl

/-! ## ACQUIRE (R55) -/

/-- A wait that begins stands at the tail of its resource's queue, and changes no other queue. -/
theorem queue_join (e : Engine) (n : Client) (r : ResourceId) (a : AcquireArgs) (k : SlotId) (q : ResourceId) :
    ((e.join n r a k).run q).queue = (e.run q).queue ++ if q = r then [k] else [] := by
  have henqueued : ((e.enqueued k (a.waiter n r)).run q).queue = (e.run q).queue ++ if q = r then [k] else [] := by
    by_cases hq : q = r
    · rw [hq, if_pos rfl]
      exact congrArg Run.queue (run_enqueued_self e k (a.waiter n r))
    · rw [if_neg hq, List.append_nil]
      exact congrArg Run.queue (run_setQueue_ne (e.create k (a.waiter n r)) _ hq)
  have hruled : (((e.enqueued k (a.waiter n r)).bandRule r).run q).queue =
      (e.run q).queue ++ if q = r then [k] else [] := by rw [bandRule_queue, henqueued]
  change ((if (e.run r).queue = [] ∧ (e.run r).state = .shared ∧ a.mode = .exclusive then
    ((e.enqueued k (a.waiter n r)).bandRule r).setState r .draining
    else (e.enqueued k (a.waiter n r)).bandRule r).run q).queue = _
  split
  · rw [Engine.setState, Engine.run_setRun, ← hruled]
    split
    · rename_i hq
      rw [hq]
    · rfl
  · exact hruled

/-! ## Every happening -/

/-- A happening takes records out of queues, or is the ACQUIRE that puts a record made in a FREE slot at a tail. -/
theorem Engine.Yields.keepsOrder_or_joins {e e' : Engine} {loading : Prop} {who : Option Client}
    (h : e.Yields loading who e') :
    e.KeepsOrder e' ∨ ∃ n r a k, e.record k = none ∧ e' = e.join n r a k := by
  cases h
  case joined hk _ => exact .inr ⟨_, _, _, _, firstFree_record hk, rfl⟩
  all_goals left
  case unchanged => exact keepsOrder_refl e
  case faults => exact keepsOrder_of_resources rfl
  case opens => exact keepsOrder_of_resources rfl
  case reopens n => exact keepsOrder_endSession e n
  case closes n => exact keepsOrder_endSession e n
  case granted => exact keepsOrder_setRun e _ (List.Sublist.refl _)
  case exhausted => exact keepsOrder_exhaust e _
  case renewed => exact keepsOrder_of_resources rfl
  case released =>
    exact ((keepsOrder_depart e _ _).trans (keepsOrder_freeSlot _ _)).trans (keepsOrder_admission _ _)
  case cancelled =>
    exact ((keepsOrder_leaveQueue e _ _).trans (keepsOrder_freeSlot _ _)).trans (keepsOrder_admission _ _)
  case discarded => exact keepsOrder_freeSlot e _
  case acknowledged => exact keepsOrder_of_resources rfl
  case forced => exact (keepsOrder_revoke e _ _).trans (keepsOrder_admission _ _)
  case dropped => exact (keepsOrder_lapse e _ _).trans (keepsOrder_admission _ _)
  case defined => exact keepsOrder_of_queue fun q => by rw [Engine.run_setDefn]
  case profiled p x _ => exact keepsOrder_foldl (f := Engine.bandRule) keepsOrder_bandRule _ (e.setProfile p x)
  case quota => exact keepsOrder_of_resources rfl
  case bars n => exact keepsOrder_barSession e n
  case unbars => exact keepsOrder_of_resources rfl
  case lifted => exact (keepsOrder_setState e _ _).trans (keepsOrder_admission _ _)
  case takenDown r => exact keepsOrder_takeDown e r
  case online => exact (keepsOrder_setRun e _ (List.nil_sublist _)).trans (keepsOrder_admission _ _)
  case emptied => exact keepsOrder_of_empty (queue_emptied _)
  case renewedAll n =>
    unfold Engine.renewAll
    split
    · exact keepsOrder_of_resources rfl
    · exact keepsOrder_refl e
  case ticked => exact keepsOrder_tick e
  case pinReset => exact keepsOrder_of_empty (queue_pinReset e)
  case loaded image f _ => exact keepsOrder_of_empty (queue_loaded e _)

/-- On queues that hold just their resource's WAITING records a FREE slot is in none (R44). -/
theorem not_queued_of_free {e : Engine} (h : e.queueLaw) {k : SlotId} (hk : e.record k = none) (r : ResourceId) :
    k ∉ (e.run r).queue := by
  rw [(h r).2 k, hk]
  simp

/-- Settles O60: every happening but a joining ACQUIRE only takes records out of queues, and that one puts the record
it makes at the tail. -/
theorem queuesKeepTheirOrder : Obligations.QueuesKeepTheirOrder := by
  intro c s t h r
  have hstays : s.engine.KeepsOrder t.engine → ∃ stayed joined, (t.engine.run r).queue = stayed ++ joined ∧
      stayed.Sublist (s.engine.run r).queue ∧ joined.length ≤ 1 ∧ (∀ k, k ∈ joined → s.engine.record k = none) ∧
      (s.engine.queueLaw → ∀ k, k ∈ joined → ∀ r', k ∉ (s.engine.run r').queue) := fun hkeeps =>
    ⟨(t.engine.run r).queue, [], (List.append_nil _).symm, hkeeps r, Nat.zero_le _, nofun, fun _ => nofun⟩
  by_cases hpower : ∃ a i, c = .powerOnReset a i
  · obtain ⟨a, i, rfl⟩ := hpower
    refine hstays (keepsOrder_of_empty fun q => ?_)
    rw [exec_powerOnReset_engine h]
    exact congrArg Run.queue (reset_run q)
  · push Not at hpower
    obtain ⟨who, hy⟩ := exec_yields hpower h
    rcases hy.keepsOrder_or_joins with hkeeps | ⟨n, q, a, k, hfree, he⟩
    · exact hstays hkeeps
    · have hjoined : ∀ j, j ∈ (if r = q then [k] else []) → j = k := fun j hj => by
        split at hj
        · exact List.mem_singleton.mp hj
        · exact absurd hj List.not_mem_nil
      refine ⟨(s.engine.run r).queue, if r = q then [k] else [], by rw [he, queue_join], List.Sublist.refl _, ?_,
        fun j hj => by rw [hjoined j hj, hfree], fun hlaw j hj => ?_⟩
      · split <;> simp
      · rw [hjoined j hj]
        exact not_queued_of_free hlaw hfree

end Sys2Proof.Machine
end

section
/-! PROOF. BAR and UNBAR: what the end of a barred client's records leaves of the sessions, the records and the
resources they claimed. -/

namespace Sys2Proof.Machine

/-! ## What an operation on one resource leaves of the others -/

/-- Of the definitions and run records, only the run record of `r` has changed. -/
structure Engine.RunsOnly (r : ResourceId) (e e' : Engine) : Prop where
  defn : ∀ q, e'.defn q = e.defn q
  others : ∀ q, q ≠ r → e'.run q = e.run q

theorem runsOnly_refl (r : ResourceId) (e : Engine) : e.RunsOnly r e := ⟨fun _ => rfl, fun _ _ => rfl⟩

theorem Engine.RunsOnly.trans {r : ResourceId} {a b c : Engine} (h : a.RunsOnly r b) (h' : b.RunsOnly r c) :
    a.RunsOnly r c := ⟨fun q => (h'.defn q).trans (h.defn q), fun q hq => (h'.others q hq).trans (h.others q hq)⟩

theorem runsOnly_setRun (e : Engine) (r : ResourceId) (x : Run) : e.RunsOnly r (e.setRun r x) :=
  ⟨fun q => Engine.defn_setRun e r q x, fun q hq => by rw [Engine.run_setRun, if_neg (Ne.symm hq)]⟩

theorem Engine.RunsOnly.of_resources {r : ResourceId} {e a e' : Engine} (h : e.RunsOnly r a)
    (hr : e'.resources = a.resources) : e.RunsOnly r e' :=
  ⟨fun q => (defn_of_resources hr q).trans (h.defn q), fun q hq => (run_of_resources hr q).trans (h.others q hq)⟩

theorem runsOnly_bandRule (e : Engine) (r : ResourceId) : e.RunsOnly r (e.bandRule r) :=
  (runsOnly_setRun e r _).of_resources (bandRule_resources e r)

theorem runsOnly_leaveQueue (e : Engine) (r : ResourceId) (k : SlotId) : e.RunsOnly r (e.leaveQueue r k) :=
  (runsOnly_setRun e r _).trans (runsOnly_bandRule _ r)

theorem runsOnly_exhaust (e : Engine) (r : ResourceId) : e.RunsOnly r (e.exhaust r) :=
  have hdown : e.RunsOnly r (e.takeDown r) := (runsOnly_setRun e r (e.run r).offline).of_resources rfl
  hdown.trans ((runsOnly_setRun (e.takeDown r) r _).of_resources rfl)

theorem runsOnly_grantHead (e : Engine) (r : ResourceId) (k : SlotId) (rec : Record) :
    e.RunsOnly r (e.grantHead r k rec) := by
  unfold Engine.grantHead
  split
  · exact runsOnly_exhaust e r
  · exact (runsOnly_leaveQueue e r k).trans ((runsOnly_setRun (e.leaveQueue r k) r _).of_resources rfl)

theorem runsOnly_admission (e : Engine) (r : ResourceId) : e.RunsOnly r (e.admission r) :=
  admitPasses_induct (P := e.RunsOnly r) (fun _ _ _ h => h.trans (runsOnly_setRun _ _ _))
    (fun _ _ _ _ h => h.trans (runsOnly_grantHead _ _ _ _)) _ (runsOnly_refl r e)

/-- Admission leaves a resource in QUARANTINE as it is, whichever resource it runs for (R57). -/
theorem run_admission_of_quarantine {e : Engine} {r : ResourceId} {w : Nat} (h : (e.run r).state = .quarantine w)
    (q : ResourceId) : (e.admission q).run r = e.run r := by
  by_cases hq : r = q
  · rw [← hq, admission_quarantine h]
  · exact (runsOnly_admission e q).others r hq

theorem state_leaveQueue (e : Engine) (r q : ResourceId) (k : SlotId) :
    ((e.leaveQueue r k).run q).state = (e.run q).state := by
  by_cases hq : q = r
  · rw [hq, run_leaveQueue]
  · rw [(runsOnly_leaveQueue e r k).others q hq]

/-- What one visit to `k` makes of an engine that the visits before it have kept ready, and the visits after it keep. -/
theorem foldl_visits_once {β : Type} {f : Engine → β → Engine} {P Q : Engine → Prop} {k : β}
    (hbefore : ∀ e j, j ≠ k → P e → P (f e j)) (hat : ∀ e, P e → Q (f e k))
    (hafter : ∀ e j, j ≠ k → Q e → Q (f e j)) {l : List β} (hl : l.Nodup) (hk : k ∈ l) {e : Engine} (h : P e) :
    Q (l.foldl f e) := by
  induction l generalizing e with
  | nil => exact absurd hk List.not_mem_nil
  | cons a l ih =>
    obtain ⟨ha, hl⟩ := List.nodup_cons.mp hl
    rw [List.foldl_cons]
    by_cases hak : a = k
    · subst hak
      exact foldl_invariant l (hat e h) fun e j hj => hafter e j fun hja => ha (hja ▸ hj)
    · exact ih hl ((List.mem_cons.mp hk).resolve_left (Ne.symm hak)) (hbefore e a hak h)

/-! ## Sessions at the end of a barred session (R124) -/

theorem changesCountOf_barRecord (n : Client) (e : Engine) (k : SlotId) : e.ChangesCountOf n (e.barRecord n k) := by
  have hfreed : ∀ {a : Engine} {rec : Record}, e.record k = some rec → rec.client = n → e.InPlace a →
      e.ChangesCountOf n (a.freeSlot k) := fun hk hn ha =>
    (ha.changesCountOf n).trans (changesCountOf_freeSlot fun x hx => (ha.client hk x hx).trans hn)
  unfold Engine.barRecord
  split
  · rename_i rec hk
    split
    · rename_i hn
      split
      · exact hfreed hk hn (inPlace_revoke e k .barred)
      · split
        · exact hfreed hk hn (inPlace_leaveQueue e rec.resource k)
        · exact hfreed hk hn (Engine.InPlace.refl e)
    · exact (Engine.InPlace.refl e).changesCountOf n
  · exact (Engine.InPlace.refl e).changesCountOf n

theorem changesCountOf_barSession (e : Engine) (n : Client) : e.ChangesCountOf n (e.barSession n) :=
  (foldl_invariant (P := e.ChangesCountOf n) _ ((Engine.InPlace.refl e).changesCountOf n)
    fun _ _ _ h => h.trans (changesCountOf_barRecord n _ _)).trans ((inPlace_admissionWhere _ _).changesCountOf n)

/-! ## Quarantine at the end of a barred session (R101, R104, R124) -/

/-- Resource `r` is in QUARANTINE, with all the ticks `w` of its definition to go. -/
structure Engine.RestsFor (r : ResourceId) (w : Nat) (e : Engine) : Prop where
  defn : (e.defn r).quarantine = w
  state : (e.run r).state = .quarantine w

/-- A slot that is freed leaves every definition and every run record. -/
theorem Engine.RestsFor.freeSlot {r : ResourceId} {w : Nat} {e : Engine} (h : e.RestsFor r w) (k : SlotId) :
    (e.freeSlot k).RestsFor r w :=
  ⟨by rw [defn_of_resources (resources_freeSlot e k), h.defn], by rw [run_freeSlot, h.state]⟩

/-- The end of another lease leaves a quarantine as it is, or begins it again with the same count. -/
theorem Engine.RestsFor.revoke {r : ResourceId} {w : Nat} {e : Engine} (h : e.RestsFor r w) {k : SlotId} {rec : Record}
    (hk : e.record k = some rec) (hh : rec.isHeld = true) (c : Cause) : (e.revoke k c).RestsFor r w := by
  obtain ⟨hleft, -⟩ := holderLeft_revoke hk hh c
  refine ⟨by rw [hleft.defn, h.defn], ?_⟩
  by_cases hr : r = rec.resource
  · subst hr
    rcases hleft.run with hrun | ⟨-, -, hrun⟩ <;> rw [hrun]
    · rw [Run.departed, h.state]
      cases rec.mode <;> rfl
    · rw [h.defn]
  · rw [hleft.runs r hr, h.state]

theorem Engine.RestsFor.barRecord {r : ResourceId} {w : Nat} {e : Engine} (h : e.RestsFor r w) (n : Client)
    (k : SlotId) : (e.barRecord n k).RestsFor r w := by
  unfold Engine.barRecord
  split
  · rename_i rec hk
    split
    · split
      · exact (h.revoke hk ‹_› .barred).freeSlot k
      · split
        · exact Engine.RestsFor.freeSlot ⟨by rw [defn_leaveQueue, h.defn], by rw [state_leaveQueue, h.state]⟩ k
        · exact h.freeSlot k
    · exact h
  · exact h

/-- The revocation of an EXCLUSIVE lease begins the quarantine its resource's definition has (R101, R104). -/
theorem revoke_rests {e : Engine} {k : SlotId} {rec : Record} {c : Cause} (hk : e.record k = some rec)
    (hh : rec.isHeld = true) (hm : rec.mode = .exclusive) (hq : (e.defn rec.resource).quarantine ≠ 0)
    (hc : c ≠ .offline) : (e.revoke k c).RestsFor rec.resource (e.defn rec.resource).quarantine := by
  have hstarts : startsQuarantine rec.mode (e.defn rec.resource).quarantine c = true := by
    simp [startsQuarantine, hm, hq, hc]
  refine ⟨by rw [(holderLeft_revoke hk hh c).1.defn], ?_⟩
  simp only [Engine.revoke, hk, hh, hstarts, if_true, Engine.setState, Engine.run_setRun_self]

/-- A lease whose record stays in its slot, squeezed at most, goes on; it is as one of any other client. -/
theorem Engine.LeaseGoesOn.keeps {e e' : Engine} {k : SlotId} {rec : Record} {x : Held} (h : e.LeaseGoesOn k rec x)
    (hkeep : ∀ n, e.KeepsLeases n e') : e'.LeaseGoesOn k rec x := by
  obtain ⟨rec', y, hk, hs, hf, hclaim⟩ := h
  obtain ⟨m, hm⟩ := exists_ne rec'.client
  exact .trans hf hclaim (hkeep m k rec' y hk hm.symm hs)

/-- A lease goes on where another record of the client is ended. -/
theorem Engine.LeaseGoesOn.barRecord {e : Engine} {k j : SlotId} {rec : Record} {x : Held} (h : e.LeaseGoesOn k rec x)
    (n : Client) (hj : j ≠ k) : (e.barRecord n j).LeaseGoesOn k rec x := by
  have hfreed : ∀ a : Engine, a.LeaseGoesOn k rec x → (a.freeSlot j).LeaseGoesOn k rec x := by
    rintro a ⟨rec', y, hk, hy⟩
    exact ⟨rec', y, by rw [record_freeSlot_ne a hj, hk], hy⟩
  unfold Engine.barRecord
  split
  · rename_i z hz
    split
    · split
      · rename_i hh
        obtain ⟨rec', y, hk, hy⟩ := h
        exact hfreed _ ⟨rec', y, by rw [(holderLeft_revoke hz hh .barred).1.others k (Ne.symm hj), hk], hy⟩
      · split
        · exact hfreed _ (h.keeps fun _ => (keepsLeases_setRun e _ _).trans (keepsLeases_bandRule _ _))
        · exact hfreed e h
    · exact h
  · exact h

theorem defn_barRecord (n : Client) (e : Engine) (k : SlotId) (q : ResourceId) :
    (e.barRecord n k).defn q = e.defn q := by
  have hfreed : ∀ a : Engine, a.defn q = e.defn q → (a.freeSlot k).defn q = e.defn q := fun a ha => by
    rw [defn_of_resources (resources_freeSlot a k), ha]
  unfold Engine.barRecord
  split
  · rename_i rec hk
    split
    · split
      · exact hfreed _ ((holderLeft_revoke hk ‹_› .barred).1.defn q)
      · split
        · exact hfreed _ (defn_leaveQueue e _ q k)
        · exact hfreed e rfl
    · rfl
  · rfl

/-- The end of an EXCLUSIVE lease at the BAR of its client leaves its resource in QUARANTINE, where its definition has
one: the visits before it keep the lease, and those after it and admission keep the quarantine (R101, R124). -/
theorem barSession_rests {e : Engine} {k : SlotId} {rec : Record} {x : Held} (hk : e.record k = some rec)
    (hs : rec.standing = .held x) (hm : rec.mode = .exclusive) (hq : (e.defn rec.resource).quarantine ≠ 0) :
    ((e.barSession rec.client).run rec.resource).state = .quarantine (e.defn rec.resource).quarantine := by
  have hvisits : ((List.finRange 64).foldl (Engine.barRecord rec.client) e).RestsFor rec.resource
      (e.defn rec.resource).quarantine := by
    refine foldl_visits_once (k := k)
      (P := fun a => a.LeaseGoesOn k rec x ∧ a.defn rec.resource = e.defn rec.resource)
      (fun a j hj ha => ⟨ha.1.barRecord _ hj, by rw [defn_barRecord, ha.2]⟩) ?_
      (fun a j _ ha => ha.barRecord _ j) (List.nodup_finRange 64) (List.mem_finRange k) ⟨lease_goes_on hk hs, rfl⟩
    rintro a ⟨⟨rec', y, hk', hs', -, hclient, hres, hmode, -⟩, hdefn⟩
    have hh := isHeld_of_standing hs'
    simp only [Engine.barRecord, hk', hclient, hh, if_true]
    rw [← hdefn, ← hres]
    exact (revoke_rests hk' hh (hmode.trans hm) (by rw [hres, hdefn]; exact hq) (c := .barred) nofun).freeSlot k
  exact foldl_invariant
    (P := fun a : Engine => (a.run rec.resource).state = .quarantine (e.defn rec.resource).quarantine) _ hvisits.state
    fun a r _ ha => by rw [run_admission_of_quarantine ha, ha]

/-! ## BAR and UNBAR (R124, R125) -/

/-- What the end of a barred session leaves, on a lawful part (R101, R117, R124). -/
theorem barSession_leaves {s : State} (hlaw : s.lawful) (n : Client) :
    let e := (s.engine.barSession n).setSessionState n .barred
    e.session n = { s.engine.session n with state := .barred, count := 0 } ∧
    (∀ m, m ≠ n → e.session m = s.engine.session m) ∧
    (∀ k, (e.record k).all fun rec => decide (rec.client ≠ n)) ∧
    ∀ k rec, s.engine.record k = some rec → rec.client = n → rec.isHeld = true → rec.mode = .exclusive →
      (s.engine.defn rec.resource).quarantine ≠ 0 →
      (e.run rec.resource).state = .quarantine (s.engine.defn rec.resource).quarantine := by
  obtain ⟨⟨hcount, hsession, hepoch, -⟩, -⟩ := hlaw
  have ha := accounted_barSession ((accounted_iff _).mpr ⟨hcount, hsession, hepoch⟩) n
  obtain ⟨hothers, c, hc⟩ := changesCountOf_barSession s.engine n
  have howner := barSession_owner s.engine n
  have hzero := count_of_notOwned ha howner
  rw [hc] at hzero
  refine ⟨?_, fun m hm => ?_, fun k => ?_, ?_⟩
  · rw [Engine.setSessionState, Engine.session_setSession_self, hc, show c = 0 from hzero]
  · rw [Engine.setSessionState, Engine.session_setSession, if_neg (Ne.symm hm), hothers m hm]
  · rw [Engine.setSessionState, Engine.record_setSession]
    cases hk : (s.engine.barSession n).record k with
    | none => rfl
    | some rec => simpa using howner k rec hk
  · rintro k rec hk rfl hh hm hq
    obtain ⟨x, hs⟩ := standing_of_isHeld hh
    exact barSession_rests hk hs hm hq

/-- Settles O18: the own rules of BAR and UNBAR branch by branch, and what the end of the session leaves. -/
theorem barEndsTheClientsRecordsAndUnbarLiftsIt : Obligations.BarEndsTheClientsRecordsAndUnbarLiftsIt := by
  intro q s h
  refine ⟨fun hkind => ⟨fun hn => ?_, fun n hn => ⟨fun hb => ?_, fun hb => ⟨?_, fun hlaw => ?_⟩⟩⟩,
    fun hkind => ⟨fun hn => ?_, fun n hn => ⟨fun hb => ?_, fun hb => ?_⟩⟩⟩
  case refine_4 =>
    rw [← barSession_eq]
    exact barSession_leaves hlaw n
  all_goals
    simp only [exec, execBar, execUnbar, ← hkind]
    refine congrArg Host.Outcome.next ?_
  · exact takeMgmt_of_unchanged h (withClient_above hn _)
  · exact takeMgmt_of_unchanged h (by rw [barRule, withClient_of_val hn, if_pos hb])
  · rw [takeMgmt_admitted h, barRule, withClient_of_val hn, if_neg hb, ← barSession_eq]
    rfl
  · exact takeMgmt_of_unchanged h (withClient_above hn _)
  · rw [takeMgmt_admitted h, unbarRule, withClient_of_val hn, if_pos hb]
    rfl
  · exact takeMgmt_of_unchanged h (by rw [unbarRule, withClient_of_val hn, if_neg hb])

end Sys2Proof.Machine
end

section
/-! PROOF. What ACQUIRE reads of its argument bytes, and the order of its refusals (R49 to R53, R191). -/

namespace Sys2Proof.Machine

/-! ## The argument bytes (12.2, R49, R191) -/

theorem modeOf_exclusive {x : Nat} : modeOf x = some .exclusive ↔ x = 0 := by
  unfold modeOf
  split <;> simp_all

theorem modeOf_shared {x : Nat} : modeOf x = some .shared ↔ x = 1 := by
  unfold modeOf
  split <;> simp_all

theorem modeOf_none {x : Nat} : modeOf x = none ↔ 2 ≤ x := by
  unfold modeOf
  split <;> simp_all
  omega

theorem yesNoOf_some {x : Nat} {b : Bool} : yesNoOf x = some b ↔ x = if b then 1 else 0 := by
  unfold yesNoOf
  split <;> cases b <;> simp_all

theorem yesNoOf_none {x : Nat} : yesNoOf x = none ↔ 2 ≤ x := by
  unfold yesNoOf
  split <;> simp_all
  omega

theorem argWord_eq (args : List Byte) (i : Nat) : argWord args i = 256 * argByte args i + argByte args (i + 1) := by
  rw [argWord, Nat.mul_comm]

/-- The tag of an ACQUIRE, carried at length 9. -/
def acquireTag (args : List Byte) : Option Nat := if args.length = 9 then some (argWord args 7) else none

/-- What ACQUIRE reads of argument bytes that pass R49. -/
theorem acquireArgs_some {args : List Byte} {a : AcquireArgs} :
    acquireArgs args = some a ↔
      a.resource = argByte args 0 ∧ modeOf (argByte args 1) = some a.mode ∧ a.term = argWord args 2 ∧ a.term ≠ 0 ∧
        a.patience = argWord args 4 ∧ yesNoOf (argByte args 6) = some a.lineRenewable ∧ a.tag = acquireTag args := by
  obtain ⟨resource, mode, term, patience, lineRenewable, tag⟩ := a
  unfold acquireArgs acquireTag
  cases hm : modeOf (argByte args 1) with
  | none => simp
  | some m =>
    cases hl : yesNoOf (argByte args 6) with
    | none => simp
    | some l =>
      by_cases ht : argWord args 2 = 0
      · simp only [if_pos ht, reduceCtorEq, false_iff]
        rintro ⟨-, -, hterm, hne, -⟩
        exact hne (hterm.trans ht)
      · simp only [if_neg ht, Option.some.injEq, AcquireArgs.mk.injEq]
        constructor
        · rintro ⟨rfl, rfl, rfl, rfl, rfl, rfl⟩
          exact ⟨rfl, rfl, rfl, ht, rfl, rfl, rfl⟩
        · rintro ⟨rfl, rfl, rfl, -, rfl, rfl, rfl⟩
          exact ⟨rfl, rfl, rfl, rfl, rfl, rfl⟩

/-- An ACQUIRE fails R49 by its term, its mode or its line-renewable. -/
theorem acquireArgs_none {args : List Byte} (h : argWord args 2 = 0 ∨ 2 ≤ argByte args 1 ∨ 2 ≤ argByte args 6) :
    acquireArgs args = none := by
  rw [Option.eq_none_iff_forall_ne_some]
  intro a ha
  obtain ⟨-, hm, hterm, ht, -, hl, -⟩ := acquireArgs_some.mp ha
  rcases h with h | h | h
  · exact ht (hterm.trans h)
  · rw [modeOf_none.mpr h] at hm
    exact absurd hm nofun
  · rw [yesNoOf_none.mpr h] at hl
    exact absurd hl nofun

/-! ## The refusals of R51 -/

section Refusals

variable {e : Engine} {n : Client} {r : ResourceId} {a : AcquireArgs}

/-- R51, step 2. -/
theorem acquireRefusal_offline (h : (e.defn r).defined = false ∨ (e.run r).state = .offline) :
    e.acquireRefusal n r a = some (.bare .offline) := by
  rw [Engine.acquireRefusal, if_pos (by simpa using h)]

/-- The resource is online and has the mode: R51, steps 2 and 3, let the ACQUIRE pass. -/
def Engine.modeFits (e : Engine) (r : ResourceId) (a : AcquireArgs) : Prop :=
  ¬ ((e.defn r).defined = false ∨ (e.run r).state = .offline) ∧ ¬ (a.mode = .shared ∧ (e.defn r).kind = .line)

/-- R51, step 3. -/
theorem acquireRefusal_mode (ho : ¬ ((e.defn r).defined = false ∨ (e.run r).state = .offline))
    (hm : a.mode = .shared ∧ (e.defn r).kind = .line) : e.acquireRefusal n r a = some (.bare .mode) := by
  rw [Engine.acquireRefusal, if_neg (by simpa using ho), if_pos hm]

/-- R51, step 4, and R52: the lowest-numbered slot with a live record of the client on the resource is answered. -/
theorem acquireRefusal_held (hfits : e.modeFits r a) {k : SlotId} {rec : Record} (hk : e.liveAt n r k)
    (hl : ∀ j, j < k → ¬ e.liveAt n r j) (hrec : e.record k = some rec) :
    e.acquireRefusal n r a =
      some { status := .held, content := handleBytes k (e.slot k).generation ++ [rec.standing.code] } := by
  have hfirst : e.firstWhere (Record.liveOf n r) = some k :=
    firstWhere_least hk fun j hj => Bool.eq_false_iff.mpr (hl j hj)
  simp only [Engine.acquireRefusal, hfirst, hrec, Option.map_some, Option.toList_some]
  rw [if_neg (by simpa using hfits.1), if_neg hfits.2]

/-- R51 after step 4. -/
theorem acquireRefusal_notHeld (hfits : e.modeFits r a) (hl : ∀ k, ¬ e.liveAt n r k) :
    e.acquireRefusal n r a =
      if (e.session n).quota ≤ (e.session n).count then some (.bare .quota)
      else if a.patience = 0 ∧ ¬ e.grantable r a.mode = true then some (.bare .busyResource)
      else if ¬ e.grantable r a.mode = true ∧ (e.defn r).queueLimit ≤ (e.run r).queue.length then some (.bare .queueFull)
      else none := by
  simp only [Engine.acquireRefusal, firstLive_none hl]
  rw [if_neg (by simpa using hfits.1), if_neg hfits.2]

end Refusals

/-! ## The answers -/

section Answers

variable {n : Client} {q : Request ClientKind} {s : State}

/-- An ACQUIRE whose rule answers without a change. -/
theorem exec_acquire_unchanged (hkind : q.kind = .acquire) (h : s.admits n q) {a : Answer}
    (hr : acquireRule n q.args (s.serve n) = (s.serve n, a)) :
    exec (.acquire n) s = .next (s.afterClient n q s.engine a) := by
  simp only [exec, execAcquire, ← hkind]
  exact congrArg Host.Outcome.next (takeClient_of_unchanged h hr)

/-- An ACQUIRE that R51 refuses in steps 2 to 7. -/
theorem exec_acquire_refused (hkind : q.kind = .acquire) (h : s.admits n q) {args : AcquireArgs} {r : ResourceId}
    (ha : acquireArgs q.args = some args) (hr : r.val = args.resource) {a : Answer}
    (href : s.engine.acquireRefusal n r args = some a) :
    exec (.acquire n) s = .next (s.afterClient n q s.engine a) :=
  exec_acquire_unchanged hkind h (by simp only [acquireRule, ha, withResource_of_val hr, State.serve_engine, href])

end Answers

/-- Settles O19: the argument bytes by R49's reading, then the refusals of R51 one by one. -/
theorem acquireIsRefusedInTheOrderOfR51 : Obligations.AcquireIsRefusedInTheOrderOfR51 := by
  intro n q s hkind h
  refine ⟨fun a => ?_, fun hbad => ?_, fun a ha => ⟨fun hr => ?_, fun r hr => ?_⟩⟩
  · rw [acquireArgs_some, yesNoOf_some, acquireTag, argWord_eq, argWord_eq, argWord_eq]
    simp only [argByte]
    cases a.mode with
    | exclusive => rw [modeOf_exclusive]
    | shared => rw [modeOf_shared]
  · refine exec_acquire_unchanged hkind h ?_
    rw [acquireRule, acquireArgs_none (by rw [argWord_eq]; exact hbad)]
  · refine exec_acquire_unchanged hkind h ?_
    simp only [acquireRule, ha]
    exact withResource_above hr _
  · have refused : ∀ {b : Answer}, s.engine.acquireRefusal n r a = some b →
        exec (.acquire n) s = .next (s.afterClient n q s.engine b) := exec_acquire_refused hkind h ha hr
    refine ⟨fun ho => refused (acquireRefusal_offline ho), fun ho hm => refused (acquireRefusal_mode ho hm),
      fun ho hm => ⟨fun k rec hk hl hrec => refused (acquireRefusal_held ⟨ho, hm⟩ hk hl hrec), fun hl => ?_⟩⟩
    have hnext := acquireRefusal_notHeld ⟨ho, hm⟩ hl
    have hg := not_congr (grantable_iff s.engine r a.mode)
    refine ⟨fun hq => refused ?_, fun hq hb => refused ?_, fun hq hb hf => refused ?_, fun hq hb hf hfull => ?_⟩
    · rw [hnext, if_pos hq]
    · rw [hnext, if_neg hq, if_pos (hb.imp_right hg.mpr)]
    · rw [hnext, if_neg hq, if_neg (mt (And.imp_right hg.mp) hb), if_pos (hf.imp_left hg.mpr)]
    · rw [if_neg hq, if_neg (mt (And.imp_right hg.mp) hb), if_neg (mt (And.imp_left hg.mp) hf)] at hnext
      refine exec_acquire_unchanged hkind h ?_
      simp only [acquireRule, ha, withResource_of_val hr, State.serve_engine, hnext, (firstFree_none _).mpr hfull]

end Sys2Proof.Machine
end

section
/-! PROOF. What a tick does to queues, bands and fences: records leave queues from their place or from the head, bands
only fall, and no grant finds its fence counter full (R58, R69, R90). -/

namespace Sys2Proof.Machine

/-! ## What follows an element of a list -/

theorem drop_after {α : Type} [DecidableEq α] {k : α} {l : List α} (h : k ∉ l) (m : List α) :
    (l ++ k :: m).drop ((l ++ k :: m).idxOf k + 1) = m := by
  rw [List.idxOf_append_of_notMem h, List.idxOf_cons_self, Nat.add_zero, List.drop_length_add_append]
  rfl

/-- What follows `k` at the end of the elements that pass `p` are the ones behind `k` that pass. -/
theorem length_behind {α : Type} [DecidableEq α] {l rest : List α} {k : α} {p : α → Bool} (hl : l.Nodup)
    (h : k :: rest <:+ l.filter p) : rest.length = (l.drop (l.idxOf k + 1)).countP p := by
  have hmem := List.mem_filter.mp (h.subset List.mem_cons_self)
  obtain ⟨front, back, rfl⟩ := List.append_of_mem hmem.1
  have hfront : k ∉ front := fun hk => (List.nodup_append.mp hl).2.2 k hk k List.mem_cons_self rfl
  have hfilter : (front ++ k :: back).filter p = front.filter p ++ k :: back.filter p := by
    rw [List.filter_append, List.filter_cons_of_pos hmem.2]
  obtain ⟨gone, hgone⟩ := h
  have hfirst : k ∉ gone := fun hk =>
    (List.nodup_append.mp (hgone ▸ hl.filter p)).2.2 k hk k List.mem_cons_self rfl
  have hrest : rest = back.filter p := by
    rw [← drop_after hfirst rest, hgone, hfilter, drop_after (fun hk => hfront (List.mem_of_mem_filter hk))]
  rw [drop_after hfront, List.countP_eq_length_filter, hrest]

/-! ## A run record within a tick -/

/-- A run record that has become `y` from `x` within a tick under profile `p`: its band has only fallen, no further
than its queue did, it cannot rise, and its fence counter has room for a grant of each waiter. -/
structure Run.Wanes (p : Profile) (x y : Run) : Prop where
  band : y.band ≤ x.band
  top : y.band ≤ 3
  fallen : y.band < x.band → y.queue.length < p.threshold (y.band + 1)
  level : y.band ≤ 2 → y.queue.length < p.threshold (y.band + 1) + p.h
  fence : x.fence ≤ y.fence
  room : y.fence + y.queue.length < Config.fenceMax

section Run

variable {p : Profile} {x y : Run}

/-- Where the queue does not reach the next threshold, the band does not rise (R90). -/
theorem bandRise_eq_self {depth b : Nat} (h : b ≤ 2 → depth < p.threshold (b + 1) + p.h) :
    bandRise p depth 3 b = b := by
  rw [bandRise, if_neg]
  rintro ⟨hb, hreach⟩
  have := h (by omega)
  omega

theorem Run.Wanes.rise (h : x.Wanes p y) {depth : Nat} (hd : depth ≤ y.queue.length) :
    bandRise p depth 3 y.band = y.band :=
  bandRise_eq_self fun hb => hd.trans_lt (h.level hb)

/-- A shorter queue and the band that it leaves (R45, R90). -/
theorem Run.Wanes.unqueue (h : x.Wanes p y) {q : List SlotId} (hq : q.length ≤ y.queue.length) :
    x.Wanes p { y with queue := q, band := ruledBand p q.length y.band } := by
  have hrise := h.rise hq
  obtain ⟨hle, hreached, hbelow⟩ := bandFall_spec p q.length 3 h.top
  have hruled : ruledBand p q.length y.band = bandFall p q.length 3 y.band := by
    rw [ruledBand, hrise, if_neg (lt_irrefl _)]
  rw [hruled]
  have hfallen : bandFall p q.length 3 y.band < x.band → q.length < p.threshold (bandFall p q.length 3 y.band + 1) := by
    intro hlt
    rcases Nat.lt_or_eq_of_le hle with hfell | hstays
    · exact hbelow hfell
    · rw [hstays] at hlt ⊢
      exact hq.trans_lt (h.fallen hlt)
  refine ⟨hle.trans h.band, hle.trans h.top, hfallen, fun hb => ?_, h.fence, ?_⟩
  · rcases Nat.lt_or_eq_of_le hle with hfell | hstays
    · exact (hbelow hfell).trans_le (Nat.le_add_right _ _)
    · simp only [hstays] at hb ⊢
      exact hq.trans_lt (h.level hb)
  · exact (Nat.add_le_add_left hq _).trans_lt h.room

/-- A change of state and holders alone. -/
theorem Run.Wanes.hold (h : x.Wanes p y) (st : ResourceState) (n : Nat) :
    x.Wanes p { y with state := st, holders := n } := ⟨h.band, h.top, h.fallen, h.level, h.fence, h.room⟩

/-- A grant takes a waiter for its fence. -/
theorem Run.Wanes.grant (h : x.Wanes p y) {k : SlotId} {q : List SlotId} (hq : y.queue = k :: q) (m : Mode) :
    x.Wanes p (Run.joined { y with queue := q, band := ruledBand p q.length y.band } m) := by
  have hlen : q.length + 1 = y.queue.length := by rw [hq, List.length_cons]
  have hroom := h.room
  have hleft := h.unqueue (q := q) (by omega)
  refine ⟨hleft.band, hleft.top, hleft.fallen, hleft.level, h.fence.trans (Nat.le_succ _), ?_⟩
  change y.fence + 1 + q.length < _
  omega

end Run

/-! ## The engine within a tick -/

/-- Slot `k` holds no waiter that lapses at the next tick (R71). -/
def Engine.outlasts (e : Engine) (k : SlotId) : Bool :=
  !((e.record k).any fun y => decide (y.standing = .waiting (.ticks 1)))

/-- The waiters for `r` behind slot `k` that do not lapse at the next tick. -/
def Engine.behind (e : Engine) (r : ResourceId) (k : SlotId) : Nat :=
  ((e.run r).queue.drop ((e.run r).queue.idxOf k + 1)).countP e.outlasts

/-- `g` are held fields that a tick taken at `e` can grant the waiter `rec` in slot `k`: the band it is granted under is
the one that its own removal leaves (R58). -/
def Engine.tickGrants (e : Engine) (k : SlotId) (rec : Record) (g : Held) : Prop :=
  let p := e.profileOf rec.resource
  let x := e.run rec.resource
  ∃ b, b ≤ x.band ∧ (1 ≤ b → p.threshold b ≤ e.behind rec.resource k) ∧
    (b < x.band → e.behind rec.resource k < p.threshold (b + 1)) ∧
    g.remaining = min rec.asked (p.ceiling b) ∧ g.state = stateByLead (e.defn rec.resource).lead g.remaining ∧
    g.renewals = 0 ∧ x.fence < g.fence

/-- The engine `a` has become of `e` within a tick: its queues hold WAITING records of their own resource, and its run
records wane. -/
structure Engine.WithinTick (e a : Engine) : Prop where
  sessions : a.sessions = e.sessions
  profiles : a.profiles = e.profiles
  faults : a.faults = e.faults
  defn : ∀ r, a.defn r = e.defn r
  wanes : ∀ r, (e.run r).Wanes (e.profileOf r) (a.run r)
  nodup : ∀ r, (a.run r).queue.Nodup
  waits : ∀ r k, k ∈ (a.run r).queue → ∃ rec, a.record k = some rec ∧ rec.resource = r ∧ rec.isWaiting = true

section Within

variable {e a : Engine}

theorem Engine.WithinTick.profileOf (h : e.WithinTick a) (r : ResourceId) : a.profileOf r = e.profileOf r :=
  profileOf_of_defn h.defn h.profiles r

/-- A waiter of one resource stands in the queue of no other. -/
theorem Engine.WithinTick.not_queued (h : e.WithinTick a) {k : SlotId} {rec : Record} (hk : a.record k = some rec)
    {r : ResourceId} (hr : rec.isWaiting = true → rec.resource ≠ r) : k ∉ (a.run r).queue := by
  intro hm
  obtain ⟨x, hx, hxr, hw⟩ := h.waits r k hm
  rw [hk, Option.some.injEq] at hx
  subst hx
  exact hr hw hxr

/-- A change of one run record and of one record whose slot is in no queue any more. -/
theorem Engine.WithinTick.change {a' : Engine} (h : e.WithinTick a) {k : SlotId} {r : ResourceId}
    (hsessions : a'.sessions = a.sessions) (hprofiles : a'.profiles = a.profiles) (hfaults : a'.faults = a.faults)
    (hruns : a.RunsOnly r a') (hothers : ∀ j, j ≠ k → a'.record j = a.record j)
    (hwanes : (e.run r).Wanes (e.profileOf r) (a'.run r))
    (hqueue : ∀ q, (a'.run q).queue = (a.run q).queue.erase k) : e.WithinTick a' := by
  refine ⟨hsessions.trans h.sessions, hprofiles.trans h.profiles, hfaults.trans h.faults,
    fun q => (hruns.defn q).trans (h.defn q), fun q => ?_, fun q => ?_, fun q j hj => ?_⟩
  · by_cases hq : q = r
    · rwa [hq]
    · rw [hruns.others q hq]
      exact h.wanes q
  · rw [hqueue]
    exact (h.nodup q).erase k
  · rw [hqueue, (h.nodup q).mem_erase_iff] at hj
    rw [hothers j hj.1]
    exact h.waits q j hj.2

/-- Within a tick no band rises, and so nothing is squeezed where a record leaves a queue (R90, R94). -/
theorem Engine.WithinTick.record_leaveQueue (h : e.WithinTick a) (r : ResourceId) (k j : SlotId) :
    (a.leaveQueue r k).record j = a.record j := by
  have hrise := (h.wanes r).rise (depth := ((a.run r).queue.erase k).length) List.length_erase_le
  rw [Engine.leaveQueue, bandRule_eq]
  simp only [Engine.setQueue, Engine.profileOf_setRun, h.profileOf, Engine.run_setRun_self, hrise, lt_irrefl, if_false]
  rfl

/-- The queues after the waiter in slot `k` has left its own. -/
theorem Engine.WithinTick.queue_leaveQueue (h : e.WithinTick a) {k : SlotId} {rec : Record}
    (hk : a.record k = some rec) (q : ResourceId) :
    ((a.leaveQueue rec.resource k).run q).queue = (a.run q).queue.erase k := by
  by_cases hq : q = rec.resource
  · rw [hq, run_leaveQueue]
  · rw [(runsOnly_leaveQueue a _ k).others q hq,
      List.erase_of_not_mem (h.not_queued hk fun _ => Ne.symm hq)]

theorem Engine.WithinTick.wanes_leaveQueue (h : e.WithinTick a) (r : ResourceId) (k : SlotId) :
    (e.run r).Wanes (e.profileOf r) ((a.leaveQueue r k).run r) := by
  rw [run_leaveQueue, h.profileOf]
  exact (h.wanes r).unqueue List.length_erase_le

/-- A change of a resource's state. -/
theorem Engine.WithinTick.setState (h : e.WithinTick a) (r : ResourceId) (st : ResourceState) :
    e.WithinTick (a.setState r st) := by
  have hrun : ∀ q, ((a.setState r st).run q).queue = (a.run q).queue := fun q => by
    rw [Engine.setState, Engine.run_setRun]
    split
    · rename_i hq
      rw [hq]
    · rfl
  have hruns := runsOnly_setRun a r { a.run r with state := st }
  refine ⟨h.sessions, h.profiles, h.faults, fun q => (hruns.defn q).trans (h.defn q), fun q => ?_,
    fun q => by rw [hrun]; exact h.nodup q, fun q j hj => h.waits q j (by rwa [hrun] at hj)⟩
  by_cases hq : q = r
  · rw [hq, Engine.setState, Engine.run_setRun_self]
    exact (h.wanes r).hold st _
  · rw [Engine.setState, hruns.others q hq]
    exact h.wanes q

/-! ## Lapses (R71) -/

/-- A lapse within a tick: the waiter in slot `k` is LAPSED and out of every queue, and no other record changes. -/
theorem Engine.WithinTick.lapse (h : e.WithinTick a) (k : SlotId) (c : Cause) :
    e.WithinTick (a.lapse k c) ∧ (∀ j, j ≠ k → (a.lapse k c).record j = a.record j) ∧
      ∀ r, ((a.lapse k c).run r).queue = (a.run r).queue.erase k := by
  by_cases hw : ∃ rec, a.record k = some rec ∧ rec.isWaiting = true
  · obtain ⟨rec, hk, hw⟩ := hw
    have heq : a.lapse k c = (a.leaveQueue rec.resource k).putRecord k (rec.lapse c) := by
      simp only [Engine.lapse, hk, hw, if_true]
    have hothers : ∀ j, j ≠ k → (a.lapse k c).record j = a.record j := fun j hj => by
      rw [heq, Engine.record_putRecord, if_neg (Ne.symm hj), h.record_leaveQueue]
    have hqueue : ∀ r, ((a.lapse k c).run r).queue = (a.run r).queue.erase k := fun r => by
      rw [heq]
      exact h.queue_leaveQueue hk r
    refine ⟨h.change (k := k) (r := rec.resource) ?_ ?_ ?_ ?_ hothers ?_ hqueue, hothers, hqueue⟩
    · rw [heq]
      exact (inPlace_leaveQueue a _ k).sessions
    · rw [heq]
      exact profiles_leaveQueue a _ k
    · rw [heq]
      exact bandRule_faults _ _
    · rw [heq]
      exact (runsOnly_leaveQueue a _ k).of_resources rfl
    · rw [heq]
      exact h.wanes_leaveQueue _ k
  · have hno : a.holdsNo Record.isWaiting k := fun rec hk => Bool.eq_false_iff.mpr fun hr => hw ⟨rec, hk, hr⟩
    rw [lapse_eq_self hno]
    refine ⟨h, fun _ _ => rfl, fun r => (List.erase_of_not_mem fun hm => ?_).symm⟩
    obtain ⟨rec, hk, -, hr⟩ := h.waits r k hm
    exact hw ⟨rec, hk, hr⟩

/-! ## Expiries (R72) -/

/-- A revocation within a tick changes no queue, and no other record. -/
theorem Engine.WithinTick.revoke (h : e.WithinTick a) (k : SlotId) (c : Cause) :
    e.WithinTick (a.revoke k c) ∧ (∀ j, j ≠ k → (a.revoke k c).record j = a.record j) ∧
      ∀ r, ((a.revoke k c).run r).queue = (a.run r).queue := by
  by_cases hh : ∃ rec, a.record k = some rec ∧ rec.isHeld = true
  · obtain ⟨rec, hk, hh⟩ := hh
    obtain ⟨hleft, -⟩ := holderLeft_revoke hk hh c
    have hqueue : ∀ r, ((a.revoke k c).run r).queue = (a.run r).queue := fun r => by
      by_cases hr : r = rec.resource
      · rw [hr]
        rcases hleft.run with hrun | ⟨-, -, hrun⟩ <;> rw [hrun] <;> rfl
      · rw [hleft.runs r hr]
    have hfaults : (a.revoke k c).faults = a.faults := by
      simp only [Engine.revoke, hk, hh, if_true]
      split <;> rfl
    refine ⟨h.change (k := k) (r := rec.resource) (inPlace_revoke a k c).sessions hleft.profiles hfaults
      ⟨hleft.defn, hleft.runs⟩ hleft.others ?_ fun r => ?_, hleft.others, hqueue⟩
    · rcases hleft.run with hrun | ⟨-, -, hrun⟩ <;> rw [hrun] <;> exact (h.wanes _).hold _ _
    · have hnot := h.not_queued hk (r := r) fun hw => absurd hh (by rw [not_isHeld_of_isWaiting hw]; nofun)
      rw [hqueue, List.erase_of_not_mem hnot]
  · have hno : a.holdsNo Record.isHeld k := fun rec hk => Bool.eq_false_iff.mpr fun hr => hh ⟨rec, hk, hr⟩
    rw [revoke_eq_self hno]
    exact ⟨h, fun _ _ => rfl, fun _ => rfl⟩

/-! ## Grants (R58) -/

/-- Every queue is what is left at the end of the waiters that outlast the tick. -/
def Engine.InOrder (e a : Engine) : Prop := ∀ r, (a.run r).queue <:+ (e.run r).queue.filter e.outlasts

/-- A grant within a tick: the head is granted under the band that its own removal leaves, nothing is squeezed and
nothing exhausted. -/
theorem Engine.WithinTick.grantHead (h : e.WithinTick a) (ho : e.InOrder a) (hnodup : ∀ r, (e.run r).queue.Nodup)
    {r : ResourceId} {k : SlotId} {rec : Record} (hh : a.head r = some (k, rec)) :
    e.WithinTick (a.grantHead r k rec) ∧ e.InOrder (a.grantHead r k rec) ∧
      (∀ j, j ≠ k → (a.grantHead r k rec).record j = a.record j) ∧
      ∃ g, e.tickGrants k rec g ∧ (a.grantHead r k rec).record k = some (rec.grant g) := by
  obtain ⟨hq, hk, hw⟩ := head_record hh
  obtain ⟨rest, hrest⟩ : ∃ rest, (a.run r).queue = k :: rest := List.head?_eq_some_iff.mp hq
  have hresource : rec.resource = r := by
    obtain ⟨x, hx, hxr, -⟩ := h.waits r k (by rw [hrest]; exact List.mem_cons_self)
    rw [hk, Option.some.injEq] at hx
    rw [hx, hxr]
  subst hresource
  have hroom : a.fenceFull rec.resource = false := by
    have := (h.wanes rec.resource).room
    simp only [Engine.fenceFull, decide_eq_false_iff_not]
    omega
  have hrun : (a.leaveQueue rec.resource k).run rec.resource =
      { a.run rec.resource with
        queue := rest
        band := ruledBand (e.profileOf rec.resource) rest.length (a.run rec.resource).band } := by
    rw [run_leaveQueue, hrest, List.erase_cons_head, h.profileOf]
  have hgrant : ∃ g, a.grantHead rec.resource k rec =
      ((a.leaveQueue rec.resource k).joinHolders rec.resource rec.mode).putRecord k (rec.grant g) ∧
      g = grantedHeld (e.defn rec.resource).lead
        ((e.profileOf rec.resource).ceiling
          (ruledBand (e.profileOf rec.resource) rest.length (a.run rec.resource).band))
        rec.asked ((a.run rec.resource).fence + 1) := by
    refine ⟨_, ?_, rfl⟩
    rw [Engine.grantHead, hroom, if_neg (by simp)]
    simp only [defn_leaveQueue, h.defn, Engine.ceiling, hrun,
      profileOf_of_defn (fun q => defn_leaveQueue a rec.resource q k) (profiles_leaveQueue a rec.resource k), h.profileOf]
  obtain ⟨g, heq, hg⟩ := hgrant
  have hjoined : (a.grantHead rec.resource k rec).run rec.resource =
      Run.joined ((a.leaveQueue rec.resource k).run rec.resource) rec.mode := by
    rw [heq]
    exact Engine.run_setRun_self _ _ _
  have hruns := runsOnly_grantHead a rec.resource k rec
  have hothers : ∀ j, j ≠ k → (a.grantHead rec.resource k rec).record j = a.record j := fun j hj => by
    rw [heq, Engine.record_putRecord, if_neg (Ne.symm hj)]
    exact h.record_leaveQueue _ k j
  have hqueue : ∀ q, ((a.grantHead rec.resource k rec).run q).queue = (a.run q).queue.erase k := fun q => by
    rw [← h.queue_leaveQueue hk]
    by_cases hqr : q = rec.resource
    · rw [hqr, hjoined]
      rfl
    · rw [hruns.others q hqr, (runsOnly_leaveQueue a _ k).others q hqr]
  have hself : (a.grantHead rec.resource k rec).record k = some (rec.grant g) := by
    rw [heq, Engine.record_putRecord_self]
  have hbehind : rest.length = e.behind rec.resource k :=
    length_behind (hnodup rec.resource) (hrest ▸ ho rec.resource)
  have hwanes := h.wanes rec.resource
  refine ⟨h.change (k := k) (r := rec.resource) ?_ ?_ ?_ hruns hothers ?_ hqueue, fun q => ?_, hothers, g, ?_, hself⟩
  · exact (inPlace_grantHead hh).sessions
  · rw [heq]
    exact profiles_leaveQueue a _ k
  · rw [heq]
    exact bandRule_faults _ _
  · rw [hjoined, hrun]
    exact hwanes.grant hrest rec.mode
  · rw [hqueue]
    by_cases hqr : q = rec.resource
    · rw [hqr, hrest, List.erase_cons_head]
      exact (List.suffix_cons k rest).trans (hrest ▸ ho rec.resource)
    · rw [List.erase_of_not_mem (h.not_queued hk fun _ => Ne.symm hqr)]
      exact ho q
  · have hunqueued := hwanes.unqueue (q := rest) (by rw [hrest, List.length_cons]; omega)
    refine ⟨_, hunqueued.band, ?_, ?_, by rw [hg]; rfl, by rw [hg]; rfl, by rw [hg]; rfl, ?_⟩
    · rw [← hbehind]
      exact (ruledBand_spec _ _ hwanes.top).2.1
    · rw [← hbehind]
      exact hunqueued.fallen
    · rw [hg]
      exact Nat.lt_succ_of_le hwanes.fence

end Within

end Sys2Proof.Machine
end

section
/-! PROOF. A whole tick, record by record: what its countdown, its lapses and its expiries make of each record, and that
between them records change only by grants (R69 to R74). -/

namespace Sys2Proof.Machine

section Tick

variable {e : Engine}

/-! ## Admissions within a tick (R57, R58) -/

theorem not_isWaiting_of_dead {rec : Record} (h : rec.isLive = false) : rec.isWaiting = false :=
  Bool.eq_false_iff.mpr fun hw => Bool.eq_false_iff.mp h (isLive_of_isWaiting hw)

theorem not_isWaiting_of_isHeld {rec : Record} (h : rec.isHeld = true) : rec.isWaiting = false :=
  Bool.eq_false_iff.mpr fun hw => Bool.eq_false_iff.mp (not_isHeld_of_isWaiting hw) h

/-- Between `a` and `b` no record has changed but by the grant of a waiter. -/
def Engine.GrantsWaiters (e a b : Engine) : Prop :=
  ∀ k, b.record k = a.record k ∨
    ∃ rec g, a.record k = some rec ∧ rec.isWaiting = true ∧ e.tickGrants k rec g ∧ b.record k = some (rec.grant g)

/-- A record that does not wait is none that a grant changes. -/
theorem Engine.GrantsWaiters.record {a b : Engine} (h : e.GrantsWaiters a b) {k : SlotId} {rec : Record}
    (hk : a.record k = some rec) (hw : rec.isWaiting = false) : b.record k = some rec := by
  rcases h k with heq | ⟨x, g, hx, hwx, -⟩
  · rw [heq, hk]
  · rw [hk, Option.some.injEq] at hx
    subst hx
    exact absurd hwx (by rw [hw]; nofun)

theorem Engine.GrantsWaiters.trans {a b c : Engine} (h : e.GrantsWaiters a b) (h' : e.GrantsWaiters b c) :
    e.GrantsWaiters a c := by
  intro k
  rcases h k with heq | ⟨rec, g, hk, hw, hg, hgrant⟩
  · rw [← heq]
    exact h' k
  · exact .inr ⟨rec, g, hk, hw, hg, h'.record hgrant rfl⟩

/-- Between `a` and `b`, within a tick taken at `e`, admission has run: records have changed by grants alone. -/
structure Engine.TickAdmits (e a b : Engine) : Prop where
  within : e.WithinTick b
  order : e.InOrder b
  grants : e.GrantsWaiters a b

theorem tickAdmits_refl {a : Engine} (h : e.WithinTick a) (ho : e.InOrder a) : e.TickAdmits a a :=
  ⟨h, ho, fun _ => .inl rfl⟩

theorem Engine.TickAdmits.setState {a b : Engine} (h : e.TickAdmits a b) (r : ResourceId) (st : ResourceState) :
    e.TickAdmits a (b.setState r st) := by
  refine ⟨h.within.setState r st, fun q => ?_, h.grants⟩
  have hq := h.order q
  rw [Engine.setState, Engine.run_setRun]
  split
  · rename_i hr
    rwa [hr]
  · exact hq

theorem Engine.TickAdmits.admission {a b : Engine} (hnodup : ∀ r, (e.run r).queue.Nodup) (h : e.TickAdmits a b)
    (r : ResourceId) : e.TickAdmits a (b.admission r) := by
  refine admitPasses_induct (P := e.TickAdmits a) (fun _ st _ hc => hc.setState r st) (fun c k rec hh hc => ?_) _ h
  obtain ⟨hwithin, horder, hothers, g, hg, hself⟩ := hc.within.grantHead hc.order hnodup hh
  refine ⟨hwithin, horder, hc.grants.trans fun j => ?_⟩
  by_cases hj : j = k
  · subst hj
    exact .inr ⟨rec, g, (head_record hh).2.1, (head_record hh).2.2, hg, hself⟩
  · exact .inl (hothers j hj)

theorem Engine.TickAdmits.admissionWhere {a b : Engine} (hnodup : ∀ r, (e.run r).queue.Nodup) (h : e.TickAdmits a b)
    (p : ResourceId → Bool) : e.TickAdmits a (b.admissionWhere p) :=
  foldl_invariant _ h fun _ r _ hc => hc.admission hnodup r

theorem Engine.TickAdmits.countQuarantine {a b : Engine} (hnodup : ∀ r, (e.run r).queue.Nodup) (h : e.TickAdmits a b)
    (before : Engine) (r : ResourceId) : e.TickAdmits a (Engine.countQuarantine before b r) := by
  unfold Engine.countQuarantine
  split
  · split
    · exact (h.setState r .free).admission hnodup r
    · exact h.setState r _
  · exact h

/-! ## Stage 1: the countdown (R70) -/

/-- A lawful engine with room in its fence counters is within a tick once it has counted down. -/
theorem withinTick_countdown (hs : e.Sound ∅ ∅ ∅) (hroom : ∀ r, e.fenceRoom r) : e.WithinTick e.countdown := by
  refine ⟨rfl, rfl, rfl, fun _ => rfl, fun r => ?_, fun r => (hs.fits r).nodup, fun r k hk => ?_⟩
  · change (e.run r).Wanes (e.profileOf r) (e.run r)
    obtain ⟨htop, hband⟩ := hs.ruled r (Set.notMem_empty r)
    refine ⟨le_rfl, htop, fun hlt => absurd hlt (lt_irrefl _), ?_, le_rfl, hroom r⟩
    split at hband
    · rename_i ho
      have hstands := (hs.fits r).stands
      simp only [Run.Stands, ho] at hstands
      have hone := threshold_one_pos (hs.profileOf_valid r)
      rw [hband, hstands.2]
      exact fun _ => hone.trans (Nat.le_add_right _ _)
    · exact hband.2
  · obtain ⟨m, hm⟩ := ((hs.fits r).waits k).mp hk
    obtain ⟨rec, hrec, hr, hw, -⟩ := claimsOn_waiting.mp hm
    obtain ⟨p, hp⟩ := standing_of_isWaiting hw
    refine ⟨rec.countdown (e.defn rec.resource).lead, by rw [record_countdown, hrec]; rfl,
      (countdown_persists _ rec).claim.2.1.trans hr, ?_⟩
    unfold Record.countdown
    split
    · rfl
    · rename_i hheld
      rw [hp] at hheld
      exact absurd hheld nofun
    · exact hw

/-! ## Visits to the slots of a list -/

/-- What visits to other slots leave of a slot, where a visit changes its own slot's record alone. -/
theorem record_foldl_of_notMem {f : Engine → SlotId → Engine}
    (hf : ∀ a k, e.WithinTick a → e.WithinTick (f a k) ∧ ∀ j, j ≠ k → (f a k).record j = a.record j) {l : List SlotId}
    {k : SlotId} (hk : k ∉ l) {a : Engine} (h : e.WithinTick a) : (l.foldl f a).record k = a.record k :=
  (foldl_invariant (P := fun b => e.WithinTick b ∧ b.record k = a.record k) l ⟨h, rfl⟩ fun b j hj hb =>
    have hstep := hf b j hb.1
    ⟨hstep.1, (hstep.2 k fun hkj => hk (hkj ▸ hj)).trans hb.2⟩).2

/-- What the visit to a slot of the list makes of its record, where a visit changes its own slot's record alone. -/
theorem record_foldl_of_mem {f : Engine → SlotId → Engine} {x y : Option Record}
    (hf : ∀ a k, e.WithinTick a → e.WithinTick (f a k) ∧ ∀ j, j ≠ k → (f a k).record j = a.record j) {l : List SlotId}
    (hl : l.Nodup) {k : SlotId} (hk : k ∈ l) (hself : ∀ a, a.record k = x → (f a k).record k = y) {a : Engine}
    (h : e.WithinTick a) (hx : a.record k = x) : (l.foldl f a).record k = y := by
  have hkeep : ∀ z b j, j ≠ k → e.WithinTick b ∧ b.record k = z → e.WithinTick (f b j) ∧ (f b j).record k = z :=
    fun z b j hj hb => ⟨(hf b j hb.1).1, ((hf b j hb.1).2 k (Ne.symm hj)).trans hb.2⟩
  exact (foldl_visits_once (P := fun b => e.WithinTick b ∧ b.record k = x)
    (Q := fun b => e.WithinTick b ∧ b.record k = y) (hkeep x) (fun b hb => ⟨(hf b k hb.1).1, hself b hb.2⟩) (hkeep y)
    hl hk ⟨h, hx⟩).2

theorem withinTick_foldl {f : Engine → SlotId → Engine} (hf : ∀ a k, e.WithinTick a → e.WithinTick (f a k))
    (l : List SlotId) {a : Engine} (h : e.WithinTick a) : e.WithinTick (l.foldl f a) :=
  foldl_invariant l h fun b k _ hb => hf b k hb

theorem nodup_slotsWhere (p : Record → Bool) : (e.slotsWhere p).Nodup := (List.nodup_finRange 64).filter _

/-! ## Stages 2 and 3: the lapses and the expiries (R71, R72) -/

/-- The engine after the lapses of stage 2, before the admissions that follow. -/
def Engine.lapsed (e : Engine) : Engine :=
  (e.slotsWhere Record.lapses).foldl (fun a k => a.lapse k .patience) e.countdown

theorem lapse_visit {a : Engine} (k : SlotId) (h : e.WithinTick a) :
    e.WithinTick (a.lapse k .patience) ∧ ∀ j, j ≠ k → (a.lapse k .patience).record j = a.record j :=
  ⟨(h.lapse k .patience).1, (h.lapse k .patience).2.1⟩

/-- The slots whose leases stage 3 revokes (R72). -/
def Engine.expiring (e : Engine) : List SlotId :=
  (e.slotsWhere Record.expires).filter fun k => (e.afterLapses.record k).any Record.isHeld

/-- The engine after the expiries of stage 3, before the admissions that follow. -/
def Engine.expired (e : Engine) : Engine := e.expiring.foldl (fun a k => a.revoke k .expired) e.afterLapses

theorem revoke_visit {a : Engine} (k : SlotId) (h : e.WithinTick a) :
    e.WithinTick (a.revoke k .expired) ∧ ∀ j, j ≠ k → (a.revoke k .expired).record j = a.record j :=
  ⟨(h.revoke k .expired).1, (h.revoke k .expired).2.1⟩

/-- Lapses close the gaps that the waiters leave (R45). -/
theorem queue_lapses (l : List SlotId) {a : Engine} (h : e.WithinTick a) (r : ResourceId) :
    ((l.foldl (fun a k => a.lapse k .patience) a).run r).queue = l.foldl List.erase (a.run r).queue := by
  induction l generalizing a with
  | nil => rfl
  | cons k l ih =>
    obtain ⟨hwithin, -, hqueue⟩ := h.lapse k .patience
    rw [List.foldl_cons, ih hwithin, hqueue, List.foldl_cons]

/-- A waiter of a lawful engine lapses at the next tick where its patience is 1 (R14, R70). -/
theorem outlasts_iff (hs : e.Sound ∅ ∅ ∅) (k : SlotId) : e.outlasts k = decide (k ∉ e.slotsWhere Record.lapses) := by
  rw [Bool.eq_iff_iff, decide_eq_true_iff, mem_slotsWhere, Engine.outlasts]
  cases hk : e.record k with
  | none => simp
  | some rec =>
    have hfits := hs.records k rec hk
    cases hst : rec.standing with
    | waiting p =>
      cases p with
      | ticks n =>
        have hn : 1 ≤ n := (hfits.waiting hst).2.1.resolve_right (Set.notMem_empty k)
        have : n = 1 ↔ n ≤ 1 := by omega
        simp [hst, Record.lapses, this]
      | unbounded => simp [hst, Record.lapses]
    | held h => simp [hst, Record.lapses]
    | revoked f c => simp [hst, Record.lapses]
    | lapsed c => simp [hst, Record.lapses]

variable (hs : e.Sound ∅ ∅ ∅) (hroom : ∀ r, e.fenceRoom r)

include hs hroom

theorem tickAdmits_lapsed : e.TickAdmits e.lapsed e.lapsed := by
  have hcount := withinTick_countdown hs hroom
  refine tickAdmits_refl (withinTick_foldl (fun a k h => (h.lapse k .patience).1) _ hcount) fun r => ?_
  have hnodup : (e.run r).queue.Nodup := (hs.fits r).nodup
  rw [Engine.lapsed, queue_lapses _ hcount, ← List.diff_eq_foldl,
    show (e.countdown.run r).queue = (e.run r).queue from rfl, hnodup.sdiff_eq_filter]
  rw [show e.outlasts = fun k => decide (k ∉ e.slotsWhere Record.lapses) from funext (outlasts_iff hs)]

/-- Stage 2's admissions change records by grants alone. -/
theorem tickAdmits_afterLapses : e.TickAdmits e.lapsed e.afterLapses :=
  (tickAdmits_lapsed hs hroom).admissionWhere (fun r => (hs.fits r).nodup) _

theorem tickAdmits_expired : e.TickAdmits e.expired e.expired := by
  have hlapses := tickAdmits_afterLapses hs hroom
  have hvisits := foldl_invariant (P := fun a => e.WithinTick a ∧ e.InOrder a) (f := fun a k => a.revoke k .expired)
    e.expiring ⟨hlapses.within, hlapses.order⟩ fun a k _ ⟨hwithin, horder⟩ => by
      obtain ⟨hstep, -, hqueue⟩ := hwithin.revoke k .expired
      exact ⟨hstep, fun r => by rw [hqueue]; exact horder r⟩
  exact tickAdmits_refl hvisits.1 hvisits.2

/-- What follows stage 3's revocations in a tick, its admissions and stage 4, changes records by grants alone. -/
theorem tickAdmits_tick : e.TickAdmits e.expired e.tick :=
  have hnodup := fun r => (hs.fits r).nodup
  foldl_invariant (P := e.TickAdmits e.expired) _ ((tickAdmits_expired hs hroom).admissionWhere hnodup _)
    fun _ r _ h => h.countQuarantine hnodup e r

/-! ## What a tick makes of a record -/

variable {k : SlotId} {rec : Record} (hk : e.record k = some rec)

include hk

/-- A slot that is not marked to lapse has only counted down when stage 2's admissions begin. -/
theorem record_lapsed_of_not (hl : rec.lapses = false) :
    e.lapsed.record k = some (rec.countdown (e.defn rec.resource).lead) := by
  have hnot : k ∉ e.slotsWhere Record.lapses := fun hm => by
    obtain ⟨x, hx, hxl⟩ := mem_slotsWhere.mp hm
    rw [hk, Option.some.injEq] at hx
    subst hx
    exact absurd hxl (by rw [hl]; nofun)
  rw [Engine.lapsed, record_foldl_of_notMem (fun a k h => lapse_visit k h) hnot (withinTick_countdown hs hroom),
    record_countdown, hk, Option.map_some]

/-- A slot that is not marked to expire stage 3's revocations leave as it is. -/
theorem record_expired_of_not (hx : rec.expires = false) : e.expired.record k = e.afterLapses.record k := by
  have hnot : k ∉ e.expiring := fun hm => by
    obtain ⟨y, hy, hyx⟩ := mem_slotsWhere.mp (List.mem_of_mem_filter hm)
    rw [hk, Option.some.injEq] at hy
    subst hy
    exact absurd hyx (by rw [hx]; nofun)
  exact record_foldl_of_notMem (fun a k h => revoke_visit k h) hnot (tickAdmits_afterLapses hs hroom).within

/-- A waiter whose patience comes to 0 is LAPSED by the tick (R70, R71). -/
theorem record_tick_of_lapses (hl : rec.lapses = true) :
    e.tick.record k = some ((rec.countdown (e.defn rec.resource).lead).lapse .patience) := by
  have hm : k ∈ e.slotsWhere Record.lapses := mem_slotsWhere.mpr ⟨rec, hk, hl⟩
  have hwaits : (rec.countdown (e.defn rec.resource).lead).isWaiting = true ∧ rec.expires = false := by
    unfold Record.lapses at hl
    split at hl
    · rename_i p hst
      simp [Record.countdown, Record.isWaiting, Standing.isWaiting, Record.expires, hst]
    · exact absurd hl nofun
  have hcount : e.countdown.record k = some (rec.countdown (e.defn rec.resource).lead) := by
    rw [record_countdown, hk, Option.map_some]
  have hlapsed : e.lapsed.record k = some ((rec.countdown (e.defn rec.resource).lead).lapse .patience) :=
    record_foldl_of_mem (fun a k h => lapse_visit k h) (nodup_slotsWhere _) hm
      (fun a ha => record_lapse_self ha hwaits.1 .patience) (withinTick_countdown hs hroom) hcount
  have hdead := not_isWaiting_of_dead (lapse_dead hwaits.1 .patience)
  have hafter := (tickAdmits_afterLapses hs hroom).grants.record hlapsed hdead
  exact (tickAdmits_tick hs hroom).grants.record (by rw [record_expired_of_not hs hroom hk hwaits.2, hafter]) hdead

/-- A lease whose remaining count comes to 0 is REVOKED by the tick (R70, R72). -/
theorem record_tick_of_expires (hx : rec.expires = true) :
    e.tick.record k = some ((rec.countdown (e.defn rec.resource).lead).revoke .expired) := by
  have hholds : (rec.countdown (e.defn rec.resource).lead).isHeld = true ∧ rec.lapses = false := by
    unfold Record.expires at hx
    split at hx
    · rename_i h hst
      simp [Record.countdown, Record.isHeld, Standing.isHeld, Record.lapses, hst]
    · exact absurd hx nofun
  have hafter := (tickAdmits_afterLapses hs hroom).grants.record (record_lapsed_of_not hs hroom hk hholds.2)
    (not_isWaiting_of_isHeld hholds.1)
  have hm : k ∈ e.expiring :=
    List.mem_filter.mpr ⟨mem_slotsWhere.mpr ⟨rec, hk, hx⟩, by rw [hafter]; exact hholds.1⟩
  have hexpired : e.expired.record k = some ((rec.countdown (e.defn rec.resource).lead).revoke .expired) :=
    record_foldl_of_mem (fun a k h => revoke_visit k h) ((nodup_slotsWhere _).filter _) hm
      (fun a ha => (holderLeft_revoke ha hholds.1 .expired).2) (tickAdmits_afterLapses hs hroom).within hafter
  exact (tickAdmits_tick hs hroom).grants.record hexpired (not_isWaiting_of_dead (revoke_dead hholds.1 .expired))

/-- Any other record has counted down, or was granted after it had (R58, R70). -/
theorem record_tick_of_neither (hl : rec.lapses = false) (hx : rec.expires = false) :
    let counted := rec.countdown (e.defn rec.resource).lead
    e.tick.record k = some counted ∨
      ∃ g, counted.isWaiting = true ∧ e.tickGrants k counted g ∧ e.tick.record k = some (counted.grant g) := by
  intro counted
  have hlapsed : e.lapsed.record k = some counted := record_lapsed_of_not hs hroom hk hl
  have hgrants : e.GrantsWaiters e.lapsed e.afterLapses := (tickAdmits_afterLapses hs hroom).grants
  have hlast : e.GrantsWaiters e.expired e.tick := (tickAdmits_tick hs hroom).grants
  have hsame := record_expired_of_not hs hroom hk hx
  have hboth : e.tick.record k = e.lapsed.record k ∨ ∃ x g, e.lapsed.record k = some x ∧ x.isWaiting = true ∧
      e.tickGrants k x g ∧ e.tick.record k = some (x.grant g) := by
    rcases hgrants k with heq | ⟨x, g, hxk, hw, hg, hgrant⟩
    · rw [← heq, ← hsame]
      exact hlast k
    · exact .inr ⟨x, g, hxk, hw, hg, hlast.record (by rw [hsame, hgrant]) rfl⟩
  rw [hlapsed] at hboth
  rcases hboth with heq | ⟨x, g, hxk, hw, hg, hgrant⟩
  · exact .inl heq
  · cases hxk
    exact .inr ⟨g, hw, hg, hgrant⟩

end Tick

/-! ## Quarantine (R73) -/

section Quarantine

variable {e : Engine} {r : ResourceId} {w : Nat}

theorem runsOnly_countQuarantine (before e : Engine) (r : ResourceId) :
    e.RunsOnly r (Engine.countQuarantine before e r) := by
  unfold Engine.countQuarantine
  split
  · split
    · exact (runsOnly_setRun e r _).trans (runsOnly_admission _ r)
    · exact runsOnly_setRun e r _
  · exact runsOnly_refl r e

/-- The first two stages of a tick leave a quarantine as it is. -/
theorem afterLapses_rests (h : (e.run r).state = .quarantine w) : (e.afterLapses.run r).state = .quarantine w := by
  have hlapses := foldl_invariant (P := fun a : Engine => (a.run r).state = .quarantine w)
    (f := fun a k => a.lapse k .patience) (a := e.countdown) (e.slotsWhere Record.lapses) h fun a k _ ha => by
      unfold Engine.lapse
      split
      · split
        · exact (state_leaveQueue a _ r k).trans ha
        · exact ha
      · exact ha
  exact foldl_invariant (P := fun a : Engine => (a.run r).state = .quarantine w) _ hlapses fun a q _ ha => by
    rw [run_admission_of_quarantine ha, ha]

/-- Nobody holds a resource in QUARANTINE, and so stage 3 leaves the quarantine as it is (R29). -/
theorem afterExpiries_rests (hs : e.Sound ∅ ∅ ∅) (h : (e.run r).state = .quarantine w) :
    (e.afterExpiries.run r).state = .quarantine w := by
  have hfree : ∀ k rec, e.record k = some rec → rec.isHeld = true → rec.resource ≠ r := by
    rintro k rec hk hh rfl
    have hpos := holders_pos (claimsOn_of_held hk hh)
    have hstands := (hs.fits rec.resource).stands
    simp only [Run.Stands, h] at hstands
    rw [← (hs.fits rec.resource).holders, hstands.1] at hpos
    exact absurd hpos (by decide)
  have hexpiries := foldl_invariant (P := fun a : Engine => e.InPlace a ∧ (a.run r).state = .quarantine w)
    (f := fun a k => a.revoke k .expired) e.expiring
    ⟨(inPlace_countdown e).trans (inPlace_lapseStage _ _), afterLapses_rests h⟩ fun a k hk ⟨hplace, ha⟩ => by
      refine ⟨hplace.trans (inPlace_revoke a k _), ?_⟩
      by_cases hh : ∃ rec, a.record k = some rec ∧ rec.isHeld = true
      · obtain ⟨rec, hrec, hh⟩ := hh
        obtain ⟨x, hx, hp⟩ := hplace.follows.record hrec
        obtain ⟨y, hy, hyx⟩ := mem_slotsWhere.mp (List.mem_of_mem_filter hk)
        rw [hx, Option.some.injEq] at hy
        subst hy
        have hxh : x.isHeld = true := by
          unfold Record.expires at hyx
          split at hyx
          · exact isHeld_of_standing ‹_›
          · exact absurd hyx nofun
        have hne : r ≠ rec.resource := fun heq => hfree k x hx hxh (by rw [heq, hp.claim.2.1])
        rw [(holderLeft_revoke hrec hh .expired).1.runs r hne, ha]
      · rw [revoke_eq_self fun rec hrec => Bool.eq_false_iff.mpr fun hr => hh ⟨rec, hrec, hr⟩, ha]
  exact foldl_invariant (P := fun a : Engine => (a.run r).state = .quarantine w) _ hexpiries.2 fun a q _ ha => by
    rw [run_admission_of_quarantine ha, ha]

/-- A quarantine of 2 or more counts down by one (R73): stage 4 comes to each resource once. -/
theorem tick_counts_quarantine (hs : e.Sound ∅ ∅ ∅) (h : (e.run r).state = .quarantine w) (hw : 2 ≤ w) :
    (e.tick.run r).state = .quarantine (w - 1) := by
  have hkeep : ∀ st (a : Engine) q, q ≠ r → (a.run r).state = st → ((Engine.countQuarantine e a q).run r).state = st :=
    fun st a q hq ha => by rw [(runsOnly_countQuarantine e a q).others r (Ne.symm hq), ha]
  refine foldl_visits_once (P := fun a => (a.run r).state = .quarantine w)
    (Q := fun a => (a.run r).state = .quarantine (w - 1)) (hkeep _) (fun a ha => ?_) (hkeep _) (List.nodup_finRange 32)
    (List.mem_finRange r) (afterExpiries_rests hs h)
  simp only [Engine.countQuarantine, h, ha, if_neg (show ¬ w ≤ 1 by omega)]
  rw [Engine.setState, Engine.run_setRun_self]

end Quarantine

/-! ## O50 -/

section Outcome

variable {e : Engine} (hs : e.Sound ∅ ∅ ∅) (hroom : ∀ r, e.fenceRoom r) {k : SlotId} {rec : Record}
  (hk : e.record k = some rec)

include hs hroom hk

/-- A lease with remaining 1 is REVOKED with cause EXPIRED, its fence kept (R72). -/
theorem tick_expires {h : Held} (hst : rec.standing = .held h) (hone : h.remaining = 1) :
    e.tick.record k = some (rec.revokedBy .expired) := by
  rw [record_tick_of_expires hs hroom hk (by simp [Record.expires, hst, hone])]
  cases hstate : h.state <;> simp [Record.countdown, Record.revoke, Record.revokedBy, hst, hone, hstate, Unseen.warn]

/-- Any other lease counts down by one and warns at its lead (R70, R75, R76). -/
theorem tick_counts_lease {h : Held} (hst : rec.standing = .held h) (hone : h.remaining ≠ 1) :
    let st := if h.state = .active then stateByLead (e.defn rec.resource).lead (h.remaining - 1) else .warned
    e.tick.record k = some { rec with
      standing := .held { h with state := st, remaining := h.remaining - 1 }
      unseen := { rec.unseen with
        warned := rec.unseen.warned || (decide (h.state = .active) && decide (st = .warned)) } } := by
  have hpos : 1 ≤ h.remaining := ((hs.records k rec hk).held hst).1.remaining.resolve_right (Set.notMem_empty k)
  have hleft : h.remaining - 1 ≠ 0 := by omega
  have hcounted := record_tick_of_neither hs hroom hk (by simp [Record.lapses, hst])
    (by simp [Record.expires, hst]; omega)
  have hheld : (rec.countdown (e.defn rec.resource).lead).isWaiting = false := by
    simp [Record.countdown, Record.isWaiting, Standing.isWaiting, hst]
  rcases hcounted with heq | ⟨g, hw, -⟩
  · rw [heq]
    simp only [Record.countdown, hst, Unseen.warn]
    cases hstate : h.state with
    | active =>
      rw [if_pos ⟨rfl, hleft⟩, if_pos rfl]
      rfl
    | warned =>
      rw [if_neg fun hactive => absurd hactive.1 nofun, if_neg nofun]
      rfl
  · exact absurd hw (by rw [hheld]; nofun)

/-- A wait with patience 1 lapses with cause PATIENCE (R71). -/
theorem tick_lapses (hst : rec.standing = .waiting (.ticks 1)) :
    e.tick.record k =
      some { rec with standing := .lapsed .patience, unseen := { rec.unseen with lapsed := true } } := by
  rw [record_tick_of_lapses hs hroom hk (by simp [Record.lapses, hst])]
  simp [Record.countdown, Record.lapse, hst]

/-- A tombstone stays as it is. -/
theorem tick_keeps_dead (hdead : rec.isLive = false) : e.tick.record k = some rec := by
  have hnot : rec.lapses = false ∧ rec.expires = false ∧ ∀ lead, rec.countdown lead = rec := by
    unfold Record.lapses Record.expires Record.countdown
    rw [Record.isLive] at hdead
    cases hst : rec.standing with
    | waiting p => simp [hst, Standing.isLive, Standing.isWaiting] at hdead
    | held h => simp [hst, Standing.isLive, Standing.isHeld] at hdead
    | revoked f c => simp
    | lapsed c => simp
  have hcounted := record_tick_of_neither hs hroom hk hnot.1 hnot.2.1
  rw [hnot.2.2] at hcounted
  rcases hcounted with heq | ⟨g, hw, -⟩
  · exact heq
  · exact absurd hw (by rw [not_isWaiting_of_dead hdead]; nofun)

/-- Any other wait goes on, counted down, or is granted (R58, R70). -/
theorem tick_waits_or_grants {p : Patience} (hst : rec.standing = .waiting p) (hl : rec.lapses = false) :
    e.tick.record k = some (rec.countdown (e.defn rec.resource).lead) ∨
      ∃ g, e.tickGrants k rec g ∧ e.tick.record k = some (rec.grant g) := by
  refine (record_tick_of_neither hs hroom hk hl (by simp [Record.expires, hst])).imp_right ?_
  have hcount : ∃ p', rec.countdown (e.defn rec.resource).lead = { rec with standing := .waiting p' } := by
    cases p with
    | ticks n => exact ⟨.ticks (n - 1), by simp only [Record.countdown, hst]⟩
    | unbounded => exact ⟨.unbounded, by simp only [Record.countdown, hst]; rw [← hst]⟩
  obtain ⟨p', hp'⟩ := hcount
  rw [hp']
  rintro ⟨g, -, hg, hgrant⟩
  exact ⟨g, hg, hgrant⟩

end Outcome

/-- Settles O50: a tick's stages are within-tick steps that leave each record as its own rule says, and stage 4 comes to
each quarantine once. -/
theorem tickTakenCountsEveryRecordOnce : Obligations.TickTakenCountsEveryRecordOnce := by
  intro s hhanded hlaw hroom
  have hs := lawful_sound hlaw
  have hwithin := (tickAdmits_tick hs hroom).within
  have hplace := inPlace_tick s.engine
  refine ⟨s.engine.tick, ?_, hwithin.sessions, hwithin.profiles, hwithin.faults,
    fun r => ⟨hwithin.defn r, fun w => tick_counts_quarantine hs⟩,
    fun k => ⟨hplace.generation k, fun hk => ?_, fun rec hk => ?_⟩⟩
  · simp only [exec, execTickTaken, State.takeTickIf, hhanded, and_self, if_true]
    rfl
  · have hrel := hplace.records k
    rw [hk] at hrel
    generalize s.engine.tick.record k = o at hrel
    cases hrel
    rfl
  · intro lead p x behind granted
    have hgrant : (∃ g, s.engine.tickGrants k rec g ∧ s.engine.tick.record k = some (rec.grant g)) →
        ∃ rec', s.engine.tick.record k = some rec' ∧ granted rec' := by
      rintro ⟨g, ⟨b, hb, hreached, hbelow, hterm, hstate, hrenewals, hfence⟩, hrec⟩
      exact ⟨_, hrec, g, b, hb, hreached, hbelow, hterm, hstate, hrenewals, hfence, rfl⟩
    cases hst : rec.standing with
    | held h =>
      simp only
      split
      · exact tick_expires hs hroom hk hst ‹_›
      · exact tick_counts_lease hs hroom hk hst ‹_›
    | waiting patience =>
      cases patience with
      | ticks left =>
        have hleft : 1 ≤ left := ((hs.records k rec hk).waiting hst).2.1.resolve_right (Set.notMem_empty k)
        simp only
        split
        · rename_i hone
          exact tick_lapses hs hroom hk (by rw [hst, hone])
        · have hcases := tick_waits_or_grants hs hroom hk hst (by simp [Record.lapses, hst]; omega)
          simp only [Record.countdown, hst] at hcases
          exact hcases.imp_right hgrant
      | unbounded =>
        have hcases := tick_waits_or_grants hs hroom hk hst (by simp [Record.lapses, hst])
        simp only [Record.countdown, hst] at hcases
        exact hcases.imp_right hgrant
    | revoked f c => exact tick_keeps_dead hs hroom hk (by rw [Record.isLive, hst]; rfl)
    | lapsed c => exact tick_keeps_dead hs hroom hk (by rw [Record.isLive, hst]; rfl)

end Sys2Proof.Machine
end

section
/-! PROOF. The endings a tick brings about, whether or not the fence counters have room (log 4): a waiter that stage 1
marks is LAPSED, a lease that stage 3 still finds held is REVOKED, and a quarantine that stage 4 counts down to 0 is
over. -/

namespace Sys2Proof.Machine

/-! ## Records that have run out -/

/-- A tombstone, or a lease with nothing remaining: no grant and no squeeze changes it. -/
structure Record.RunOut (rec : Record) : Prop where
  waiting : rec.isWaiting = false
  remaining : ∀ h, rec.standing = .held h → h.remaining = 0

theorem runOut_of_dead {rec : Record} (h : rec.isLive = false) : rec.RunOut :=
  ⟨not_isWaiting_of_dead h, fun _ hs => absurd (isLive_of_isHeld (isHeld_of_standing hs)) (by rw [h]; nofun)⟩

theorem not_isHeld_of_dead {rec : Record} (h : rec.isLive = false) : rec.isHeld = false :=
  Bool.eq_false_iff.mpr fun hh => Bool.eq_false_iff.mp h (isLive_of_isHeld hh)

/-- No record that has run out changes, a lease as long as its resource's fence counter has room; no definition changes,
and no fence counter and queue together grow. -/
structure Engine.KeepsRunOut (e e' : Engine) : Prop where
  defn : ∀ r, e'.defn r = e.defn r
  room : ∀ r, (e'.run r).fence + (e'.run r).queue.length ≤ (e.run r).fence + (e.run r).queue.length
  records : ∀ k rec, e.record k = some rec → rec.RunOut → (rec.isHeld = true → e.fenceRoom rec.resource) →
    e'.record k = some rec

/-- A tombstone needs no room. -/
theorem Engine.KeepsRunOut.dead {e e' : Engine} (h : e.KeepsRunOut e') {k : SlotId} {rec : Record}
    (hk : e.record k = some rec) (hd : rec.isLive = false) : e'.record k = some rec :=
  h.records k rec hk (runOut_of_dead hd) fun hh => absurd hh (by rw [not_isHeld_of_dead hd]; nofun)

theorem keepsRunOut_refl (e : Engine) : e.KeepsRunOut e := ⟨fun _ => rfl, fun _ => le_rfl, fun _ _ hk _ _ => hk⟩

theorem Engine.KeepsRunOut.trans {a b c : Engine} (h : a.KeepsRunOut b) (h' : b.KeepsRunOut c) : a.KeepsRunOut c :=
  ⟨fun r => (h'.defn r).trans (h.defn r), fun r => (h'.room r).trans (h.room r), fun k rec hk hr hroom =>
    h'.records k rec (h.records k rec hk hr hroom) hr fun hh => (h.room _).trans_lt (hroom hh)⟩

theorem keepsRunOut_foldl {β : Type} {f : Engine → β → Engine} (hf : ∀ (e : Engine) b, e.KeepsRunOut (f e b))
    (l : List β) (e : Engine) : e.KeepsRunOut (l.foldl f e) :=
  foldl_invariant (P := e.KeepsRunOut) l (keepsRunOut_refl e) fun a b _ h => h.trans (hf a b)

theorem keepsRunOut_setState (e : Engine) (r : ResourceId) (st : ResourceState) : e.KeepsRunOut (e.setState r st) :=
  ⟨(runsOnly_setRun e r _).defn, (spares_setState (n := 0) e r st).room, fun _ _ hk _ _ => hk⟩

theorem squeeze_of_runOut {rec : Record} (h : rec.RunOut) (lead c : Nat) : rec.squeeze lead c = rec := by
  unfold Record.squeeze
  split
  · rename_i x hx
    rw [h.remaining x hx, if_neg (Nat.not_lt_zero c)]
  · rfl

/-- A removal from a queue squeezes, at most, what has a remaining count (R45, R94). -/
theorem keepsRunOut_leaveQueue (e : Engine) (r : ResourceId) (k : SlotId) : e.KeepsRunOut (e.leaveQueue r k) := by
  refine ⟨fun q => defn_leaveQueue e r q k, (spares_leaveQueue (n := 0) e r k).room, fun j rec hj hr _ => ?_⟩
  simp only [Engine.leaveQueue, Engine.bandRule]
  split
  · simp [Engine.squeeze, Engine.setBand, Engine.setQueue, hj, squeeze_of_runOut hr]
  · simp [Engine.setBand, Engine.setQueue, hj]

/-- An exhaustion ends only leases on a resource without room (R33). -/
theorem keepsRunOut_exhaust {e : Engine} {r : ResourceId} (hf : e.fenceFull r = true) :
    e.KeepsRunOut (e.exhaust r) := by
  refine ⟨(runsOnly_exhaust e r).defn, (spares_exhaust (n := 0) hf).room, fun k rec hk hr hroom => ?_⟩
  have hfull : Config.fenceMax ≤ (e.run r).fence := by simpa [Engine.fenceFull] using hf
  have hrecord : (e.exhaust r).record k =
      some (if rec.resource = r then (rec.revoke .offline).lapse .offline else rec) := by
    rw [show (e.exhaust r).record k = (e.takeDown r).record k from rfl]
    simp only [Engine.takeDown, Engine.record_setRun, Engine.record_mapRecords, hk, Option.map_some]
  rw [hrecord]
  by_cases hres : rec.resource = r
  · have hheld : rec.isHeld = false := Bool.eq_false_iff.mpr fun hh => by
      have := hroom hh
      rw [hres] at this
      simp only [Engine.fenceRoom] at this
      omega
    have hwaiting := hr.waiting
    rw [if_pos hres, Record.ended_eq]
    cases hst : rec.standing with
    | held h => exact absurd (isHeld_of_standing hst) (by rw [hheld]; nofun)
    | waiting p => exact absurd (isWaiting_of_standing hst) (by rw [hwaiting]; nofun)
    | revoked f c => rfl
    | lapsed c => rfl
  · rw [if_neg hres]

theorem keepsRunOut_grantHead {e : Engine} {r : ResourceId} {k : SlotId} {rec : Record}
    (hh : e.head r = some (k, rec)) : e.KeepsRunOut (e.grantHead r k rec) := by
  obtain ⟨-, hk, hw⟩ := head_record hh
  by_cases hf : e.fenceFull r = true
  · rw [Engine.grantHead, if_pos hf]
    exact keepsRunOut_exhaust hf
  · refine ⟨(runsOnly_grantHead e r k rec).defn, (spares_grantHead (n := 0) hh).room, fun j x hj hr hroom => ?_⟩
    have hkj : k ≠ j := by
      rintro rfl
      rw [hk, Option.some.injEq] at hj
      exact absurd hw (by rw [hj, hr.waiting]; nofun)
    rw [Engine.grantHead, if_neg hf, Engine.record_putRecord, if_neg hkj]
    exact (keepsRunOut_leaveQueue e r k).records j x hj hr hroom

theorem keepsRunOut_admission (e : Engine) (r : ResourceId) : e.KeepsRunOut (e.admission r) :=
  admitPasses_induct (P := e.KeepsRunOut) (fun _ _ _ h => h.trans (keepsRunOut_setState _ _ _))
    (fun _ _ _ hh h => h.trans (keepsRunOut_grantHead hh)) _ (keepsRunOut_refl e)

theorem keepsRunOut_admissionWhere (e : Engine) (p : ResourceId → Bool) : e.KeepsRunOut (e.admissionWhere p) :=
  keepsRunOut_foldl keepsRunOut_admission _ e

theorem keepsRunOut_countQuarantine (before e : Engine) (r : ResourceId) :
    e.KeepsRunOut (Engine.countQuarantine before e r) := by
  unfold Engine.countQuarantine
  split
  · split
    · exact (keepsRunOut_setState e r .free).trans (keepsRunOut_admission _ r)
    · exact keepsRunOut_setState e r _
  · exact keepsRunOut_refl e

/-- A lapse is of a waiter, or changes nothing (R71). -/
theorem lapse_cases (e : Engine) (k : SlotId) (c : Cause) :
    e.lapse k c = e ∨ ∃ rec, e.record k = some rec ∧ rec.isWaiting = true ∧
      e.lapse k c = (e.leaveQueue rec.resource k).putRecord k (rec.lapse c) := by
  unfold Engine.lapse
  split
  · rename_i rec hk
    split
    · exact .inr ⟨rec, hk, ‹_›, rfl⟩
    · exact .inl rfl
  · exact .inl rfl

/-- A lapse changes of the other records at most those that its removal from the queue squeezes. -/
theorem record_lapse_ne {e : Engine} {k j : SlotId} {rec : Record} {c : Cause} (hj : e.record j = some rec)
    (hne : j ≠ k) (hq : ∀ r, (e.leaveQueue r k).record j = some rec) : (e.lapse k c).record j = some rec := by
  rcases lapse_cases e k c with heq | ⟨x, -, -, heq⟩
  · rw [heq, hj]
  · rw [heq, Engine.record_putRecord, if_neg (Ne.symm hne), hq]

theorem keepsRunOut_lapse (e : Engine) (k : SlotId) (c : Cause) : e.KeepsRunOut (e.lapse k c) := by
  rcases lapse_cases e k c with heq | ⟨rec, hk, hw, heq⟩
  · rw [heq]
    exact keepsRunOut_refl e
  · have hleave := keepsRunOut_leaveQueue e rec.resource k
    refine ⟨fun r => by rw [heq]; exact hleave.defn r, fun r => by rw [heq]; exact hleave.room r,
      fun j x hj hr hroom => record_lapse_ne hj ?_ fun r => (keepsRunOut_leaveQueue e r k).records j x hj hr hroom⟩
    rintro rfl
    rw [hk, Option.some.injEq] at hj
    exact absurd hw (by rw [hj, hr.waiting]; nofun)

theorem keepsRunOut_lapseStage (e : Engine) (l : List SlotId) : e.KeepsRunOut (e.lapseStage l) :=
  (keepsRunOut_foldl (fun a k => keepsRunOut_lapse a k .patience) l e).trans (keepsRunOut_admissionWhere _ _)

/-- A revocation is of a lease, or changes nothing (R100). -/
theorem revoke_cases (e : Engine) (k : SlotId) (c : Cause) :
    e.revoke k c = e ∨ ∃ rec, e.record k = some rec ∧ rec.isHeld = true := by
  by_cases hh : ∃ rec, e.record k = some rec ∧ rec.isHeld = true
  · exact .inr hh
  · exact .inl (revoke_eq_self fun rec hk => Bool.eq_false_iff.mpr fun hr => hh ⟨rec, hk, hr⟩)

/-- A revocation changes the record of its own slot alone. -/
theorem record_revoke_ne (e : Engine) {k j : SlotId} (h : j ≠ k) (c : Cause) :
    (e.revoke k c).record j = e.record j := by
  rcases revoke_cases e k c with heq | ⟨rec, hk, hh⟩
  · rw [heq]
  · exact (holderLeft_revoke hk hh c).1.others j h

theorem defn_revoke (e : Engine) (k : SlotId) (c : Cause) (r : ResourceId) : (e.revoke k c).defn r = e.defn r := by
  rcases revoke_cases e k c with heq | ⟨rec, hk, hh⟩
  · rw [heq]
  · exact (holderLeft_revoke hk hh c).1.defn r

/-- A revocation leaves a tombstone. -/
theorem record_revoke_dead {e : Engine} {k : SlotId} {rec : Record} (hk : e.record k = some rec)
    (hd : rec.isLive = false) (j : SlotId) (c : Cause) : (e.revoke j c).record k = some rec := by
  by_cases hkj : k = j
  · rcases revoke_cases e j c with heq | ⟨x, hx, hh⟩
    · rw [heq, hk]
    · rw [← hkj, hk, Option.some.injEq] at hx
      exact absurd hh (by rw [← hx, not_isHeld_of_dead hd]; nofun)
  · rw [record_revoke_ne e hkj, hk]

/-! ## The record that ends (R70 to R72) -/

section Ends

variable {e : Engine} {k : SlotId} {rec : Record}

/-- Stage 4 leaves what has run out. -/
theorem keepsRunOut_quarantines (e : Engine) : e.afterExpiries.KeepsRunOut e.tick :=
  keepsRunOut_foldl (keepsRunOut_countQuarantine e) _ _

/-- Stages 3 and 4 leave a tombstone. -/
theorem record_tick_of_dead (hk : e.afterLapses.record k = some rec) (hd : rec.isLive = false) :
    e.tick.record k = some rec :=
  have hexpired : e.expired.record k = some rec :=
    foldl_invariant (P := fun a : Engine => a.record k = some rec) _ hk
      fun _ j _ ha => record_revoke_dead ha hd j .expired
  (keepsRunOut_quarantines e).dead ((keepsRunOut_admissionWhere _ _).dead hexpired hd) hd

/-- A marked waiter is LAPSED by stage 2: the lapses before its own leave it, and what follows leaves the tombstone. -/
theorem record_afterLapses_of_lapses (hk : e.record k = some rec) (hl : rec.lapses = true) :
    e.afterLapses.record k = some ((rec.countdown (e.defn rec.resource).lead).lapse .patience) := by
  have hwaits : (rec.countdown (e.defn rec.resource).lead).isWaiting = true := by
    unfold Record.lapses at hl
    split at hl
    · rename_i p hst
      simp only [Record.countdown, hst]
      rfl
    · exact absurd hl nofun
  have hdead := lapse_dead hwaits .patience
  have hlapsed : e.lapsed.record k = some ((rec.countdown (e.defn rec.resource).lead).lapse .patience) :=
    foldl_visits_once (P := fun a : Engine => a.record k = some (rec.countdown (e.defn rec.resource).lead))
      (Q := fun a : Engine => a.record k = some ((rec.countdown (e.defn rec.resource).lead).lapse .patience))
      (fun a j hj ha => record_lapse_ne ha (Ne.symm hj) fun r =>
        leaveQueue_record_of_not_held ha (not_isHeld_of_isWaiting hwaits))
      (fun a ha => record_lapse_self ha hwaits .patience)
      (fun a j _ ha => (keepsRunOut_lapse a j .patience).dead ha hdead)
      (nodup_slotsWhere _) (mem_slotsWhere.mpr ⟨rec, hk, hl⟩) (by rw [record_countdown, hk, Option.map_some])
  exact (keepsRunOut_admissionWhere _ _).dead hlapsed hdead

/-- The slot of a lease that stage 1 marks and stage 3 still finds held is among those that stage 3 revokes (R72). -/
theorem mem_expiring (hm : k ∈ e.slotsWhere Record.expires) (hk : e.afterLapses.record k = some rec)
    (hh : rec.isHeld = true) : k ∈ e.expiring := List.mem_filter.mpr ⟨hm, by rw [hk]; exact hh⟩

/-- A marked lease that stage 3 still finds held is REVOKED with cause EXPIRED (R72). -/
theorem record_tick_of_expiring (hm : k ∈ e.slotsWhere Record.expires) (hk : e.afterLapses.record k = some rec)
    (hh : rec.isHeld = true) : e.tick.record k = some (rec.revoke .expired) := by
  have hdead := revoke_dead hh .expired
  have hexpired : e.expired.record k = some (rec.revoke .expired) :=
    foldl_visits_once (P := fun a : Engine => a.record k = some rec)
      (Q := fun a : Engine => a.record k = some (rec.revoke .expired))
      (fun a j hj ha => (record_revoke_ne a (Ne.symm hj) .expired).trans ha)
      (fun a ha => (holderLeft_revoke ha hh .expired).2) (fun a j _ ha => record_revoke_dead ha hdead j .expired)
      ((nodup_slotsWhere _).filter _) (mem_expiring hm hk hh) hk
  exact (keepsRunOut_quarantines e).dead ((keepsRunOut_admissionWhere _ _).dead hexpired hdead) hdead

theorem held_of_expires (hx : rec.expires = true) : ∃ h, rec.standing = .held h ∧ h.remaining ≤ 1 := by
  unfold Record.expires at hx
  split at hx
  · exact ⟨_, ‹_›, of_decide_eq_true hx⟩
  · exact absurd hx nofun

/-- A marked lease has nothing remaining when stage 2 begins, and stage 2 leaves it where its resource has room. -/
theorem record_afterLapses_of_expires (hk : e.record k = some rec) (hx : rec.expires = true)
    (hroom : e.fenceRoom rec.resource) :
    e.afterLapses.record k = some (rec.countdown (e.defn rec.resource).lead) ∧
      (rec.countdown (e.defn rec.resource).lead).isHeld = true := by
  have hout : (rec.countdown (e.defn rec.resource).lead).isHeld = true ∧
      (rec.countdown (e.defn rec.resource).lead).RunOut := by
    obtain ⟨h, hst, hone⟩ := held_of_expires hx
    simp only [Record.countdown, hst]
    refine ⟨rfl, rfl, fun g hg => ?_⟩
    cases hg
    exact Nat.sub_eq_zero_of_le hone
  refine ⟨(keepsRunOut_lapseStage _ _).records k _ (by rw [record_countdown, hk, Option.map_some]) hout.2 fun _ => ?_,
    hout.1⟩
  rw [(countdown_persists _ rec).claim.2.1]
  exact hroom

end Ends

/-! ## Quarantine that an expiry begins, and quarantine that ends (R73, R101, R106) -/

section Rest

variable {e : Engine} {r : ResourceId} {w : Nat}

/-- A resource in QUARANTINE has no holder (R29). -/
theorem resource_ne_of_held (hs : e.Sound ∅ ∅ ∅) (h : (e.run r).state = .quarantine w) {k : SlotId} {rec : Record}
    (hk : e.record k = some rec) (hh : rec.isHeld = true) : rec.resource ≠ r := by
  rintro rfl
  have hpos := holders_pos (claimsOn_of_held hk hh)
  have hstands := (hs.fits rec.resource).stands
  simp only [Run.Stands, h] at hstands
  rw [← (hs.fits rec.resource).holders, hstands.1] at hpos
  exact absurd hpos (by decide)

/-- Stage 4 leaves a resource that was not in QUARANTINE when the tick began (R73). -/
theorem countQuarantine_eq_self {before : Engine} (h : ∀ v, (before.run r).state ≠ .quarantine v) :
    Engine.countQuarantine before e r = e := by
  unfold Engine.countQuarantine
  split
  · rename_i v _ hv _
    exact absurd hv (h v)
  · rfl

/-- A quarantine that begins within a tick has all its ticks to go when the tick is over (R73, R101). -/
theorem tick_state_of_afterExpiries (hno : ∀ v, (e.run r).state ≠ .quarantine v) :
    (e.tick.run r).state = (e.afterExpiries.run r).state :=
  foldl_invariant (P := fun a : Engine => (a.run r).state = (e.afterExpiries.run r).state) _ rfl fun a q _ ha => by
    by_cases hq : r = q
    · subst hq
      rw [countQuarantine_eq_self hno, ha]
    · rw [(runsOnly_countQuarantine e a q).others r hq, ha]

/-- The expiry of an EXCLUSIVE lease begins the quarantine its resource's definition has (R72, R101). -/
theorem tick_begins_quarantine (hs : e.Sound ∅ ∅ ∅) {k : SlotId} {rec : Record} (hk : e.record k = some rec)
    (hx : rec.expires = true) (hroom : e.fenceRoom rec.resource) (hmode : rec.mode = .exclusive)
    (hq : (e.defn rec.resource).quarantine ≠ 0) :
    (e.tick.run rec.resource).state = .quarantine (e.defn rec.resource).quarantine := by
  obtain ⟨hafter, hh⟩ := record_afterLapses_of_expires hk hx hroom
  obtain ⟨-, hres, hmode', -, -⟩ := (countdown_persists (e.defn rec.resource).lead rec).claim
  generalize rec.countdown (e.defn rec.resource).lead = counted at hafter hh hres hmode'
  have hdefn : e.afterLapses.defn rec.resource = e.defn rec.resource := (keepsRunOut_lapseStage _ _).defn _
  obtain ⟨h, hst, -⟩ := held_of_expires hx
  have hexpired : e.expired.RestsFor rec.resource (e.defn rec.resource).quarantine := by
    refine foldl_visits_once (k := k)
      (P := fun a : Engine => a.record k = some counted ∧ a.defn rec.resource = e.defn rec.resource)
      (fun a j hj ha => ⟨(record_revoke_ne a (Ne.symm hj) .expired).trans ha.1, ?_⟩) (fun a ha => ?_)
      (fun a j _ ha => ?_) ((nodup_slotsWhere _).filter _) (mem_expiring (mem_slotsWhere.mpr ⟨rec, hk, hx⟩) hafter hh)
      ⟨hafter, hdefn⟩
    · rw [defn_revoke, ha.2]
    · rw [← ha.2, ← hres]
      exact revoke_rests ha.1 hh (hmode'.trans hmode) (by rw [hres, ha.2]; exact hq) nofun
    · rcases revoke_cases a j .expired with heq | ⟨x, hx, hxh⟩
      · rwa [heq]
      · exact ha.revoke hx hxh .expired
  rw [tick_state_of_afterExpiries fun v hv => resource_ne_of_held hs hv hk (isHeld_of_standing hst) rfl]
  exact foldl_invariant
    (P := fun a : Engine => (a.run rec.resource).state = .quarantine (e.defn rec.resource).quarantine) _ hexpired.state
    fun a q _ ha => by rw [run_admission_of_quarantine ha, ha]

/-- Admission puts no resource into QUARANTINE (R57). -/
theorem admission_not_quarantine (h : ∀ v, (e.run r).state ≠ .quarantine v) (v : Nat) :
    ((e.admission r).run r).state ≠ .quarantine v := by
  refine admitPasses_induct (P := fun a : Engine => ∀ v, (a.run r).state ≠ .quarantine v) (fun a st hst _ v => ?_)
    (fun a k rec hh _ v => ?_) _ h v
  · rw [Engine.setState, Engine.run_setRun_self]
    rcases hst with rfl | rfl | rfl <;> nofun
  · rw [grantHead_eq]
    rcases granted_cases (head_record hh) with ho | ⟨hg, -⟩
    · rw [ho]
      nofun
    · rw [hg]
      cases rec.mode <;> nofun

/-- Admission leaves a FREE resource that nobody waits for (R57). -/
theorem admission_free (hf : (e.run r).state = .free) (hq : (e.run r).queue = []) : e.admission r = e := by
  have hhead : e.head r = none := by rw [Engine.head, hq]
  simp only [Engine.admission, Engine.admitPasses, hf, hhead]

/-- Before stage 4 a tick leaves a resource in QUARANTINE for which nobody waits as it is: neither a lapse nor an expiry
is on it, and admission stops at once. -/
theorem run_afterExpiries_of_resting (hs : e.Sound ∅ ∅ ∅) (h : (e.run r).state = .quarantine w)
    (hq : (e.run r).queue = []) : e.afterExpiries.run r = e.run r := by
  have hnone : ∀ {a : Engine}, e.InPlace a → ∀ k rec, a.record k = some rec → rec.isLive = true → r ≠ rec.resource := by
    rintro a ha k rec hk hl rfl
    obtain ⟨x, hx, hp⟩ := ha.follows.record hk
    have hres := hp.claim.2.1
    by_cases hh : x.isHeld = true
    · exact resource_ne_of_held hs h hx hh hres.symm
    · have hw := isWaiting_of_live (hp.live hl) (Bool.eq_false_iff.mpr hh)
      have hmem := ((hs.fits rec.resource).waits k).mpr ⟨x.mode, claimsOn_waiting.mpr ⟨x, hx, hres.symm, hw, rfl⟩⟩
      rw [hq] at hmem
      exact absurd hmem List.not_mem_nil
  have hadmission : ∀ (a : Engine) q, a.run r = e.run r → (a.admission q).run r = e.run r := fun a q ha => by
    rw [run_admission_of_quarantine (by rw [ha, h]), ha]
  have hlapses := foldl_invariant (P := fun a : Engine => e.InPlace a ∧ a.run r = e.run r)
    (f := fun a k => a.lapse k .patience) (e.slotsWhere Record.lapses) ⟨inPlace_countdown e, rfl⟩
    fun a k _ ⟨hplace, ha⟩ => by
      refine ⟨hplace.trans (inPlace_lapse a k _), ?_⟩
      rcases lapse_cases a k .patience with heq | ⟨rec, hk, hw, heq⟩
      · rw [heq, ha]
      · rw [heq, ← ha]
        exact (runsOnly_leaveQueue a _ k).others r (hnone hplace k rec hk (isLive_of_isWaiting hw))
  have hafter : e.afterLapses.run r = e.run r := foldl_invariant (P := fun a : Engine => a.run r = e.run r) _ hlapses.2
    fun a q _ => hadmission a q
  have hexpiries := foldl_invariant (P := fun a : Engine => e.InPlace a ∧ a.run r = e.run r)
    (f := fun a k => a.revoke k .expired) e.expiring
    ⟨(inPlace_countdown e).trans (inPlace_lapseStage _ _), hafter⟩ fun a k _ ⟨hplace, ha⟩ => by
      refine ⟨hplace.trans (inPlace_revoke a k _), ?_⟩
      rcases revoke_cases a k .expired with heq | ⟨rec, hk, hh⟩
      · rw [heq, ha]
      · rw [(holderLeft_revoke hk hh .expired).1.runs r (hnone hplace k rec hk (isLive_of_isHeld hh)), ha]
  exact foldl_invariant (P := fun a : Engine => a.run r = e.run r) _ hexpiries.2 fun a q _ => hadmission a q

/-- A quarantine of 1 is over when the tick is: stage 4 comes to the resource once, and admission runs (R73, R106). -/
theorem tick_ends_quarantine (hs : e.Sound ∅ ∅ ∅) (h : (e.run r).state = .quarantine 1) :
    (∀ v, (e.tick.run r).state ≠ .quarantine v) ∧
      ((e.run r).queue = [] → e.tick.run r = { e.run r with state := .free }) := by
  refine foldl_visits_once
    (P := fun a : Engine => (a.run r).state = .quarantine 1 ∧ ((e.run r).queue = [] → a.run r = e.run r))
    (Q := fun a : Engine => (∀ v, (a.run r).state ≠ .quarantine v) ∧
      ((e.run r).queue = [] → a.run r = { e.run r with state := .free }))
    (fun a q hq ha => ?_) (fun a ha => ?_) (fun a q hq ha => ?_) (List.nodup_finRange 32) (List.mem_finRange r)
    ⟨afterExpiries_rests hs h, run_afterExpiries_of_resting hs h⟩
  · rwa [(runsOnly_countQuarantine e a q).others r (Ne.symm hq)]
  · have hfree : (a.setState r .free).run r = { a.run r with state := .free } := Engine.run_setRun_self a r _
    simp only [Engine.countQuarantine, h, ha.1, le_refl, if_true]
    refine ⟨admission_not_quarantine fun v => ?_, fun hq => ?_⟩
    · rw [hfree]
      nofun
    · rw [admission_free (by rw [hfree]) (by rw [hfree, ha.2 hq]; exact hq), hfree, ha.2 hq]
  · rwa [(runsOnly_countQuarantine e a q).others r (Ne.symm hq)]

end Rest

/-! ## The rows of the three endings (log 4) -/

theorem takeTickIf_taken {s : State} {p : Bool} (h : s.handed = some .tickTaken) (hp : p = true) :
    s.takeTickIf p = s.takeTick := if_pos ⟨h, hp⟩

theorem takeTickIf_not {s : State} {p : Bool} (hp : p = false) : s.takeTickIf p = s :=
  if_neg fun h => absurd h.2 (by rw [hp]; nofun)

theorem takeTickIf_not_handed {s : State} (h : s.handed ≠ some .tickTaken) (p : Bool) : s.takeTickIf p = s :=
  if_neg fun hp => h hp.1

theorem exec_tickTaken {s : State} (h : s.handed = some .tickTaken) : exec .tickTaken s = .next s.takeTick :=
  congrArg _ (takeTickIf_taken h rfl)

/-- A row that names an ending which the waiting tick brings about is the taking of that tick. -/
theorem taking_is_tick {s : State} {c : Instr} {p : Bool} (h : s.handed = some .tickTaken)
    (hc : exec c s = .next (s.takeTickIf p)) (hp : p = true) {P : State → Prop} (hP : P s.takeTick) :
    ∃ t, exec c s = .next t ∧ exec .tickTaken s = .next t ∧ P t :=
  ⟨s.takeTick, by rw [hc, takeTickIf_taken h hp], exec_tickTaken h, hP⟩

/-- What the LAPSE of a wait of patience 1 makes of its record. -/
theorem countdown_lapse {rec : Record} (hst : rec.standing = .waiting (.ticks 1)) (lead : Nat) :
    (rec.countdown lead).lapse .patience =
      { rec with standing := .lapsed .patience, unseen := { rec.unseen with lapsed := true } } := by
  simp [Record.countdown, Record.lapse, hst]

/-- What the EXPIRY of a lease of remaining 1 makes of its record: a record that reaches 0 is not warned (R70). -/
theorem countdown_revoke {rec : Record} {h : Held} (hst : rec.standing = .held h) (hone : h.remaining = 1)
    (lead : Nat) : (rec.countdown lead).revoke .expired = rec.revokedBy .expired := by
  cases hstate : h.state <;> simp [Record.countdown, Record.revoke, Record.revokedBy, hst, hone, hstate, Unseen.warn]

/-- Settles O51: the tick's stages in order, each ending brought about by its own and left by those after it. -/
theorem endingsHappenInTheTickThatBringsThemAbout : Obligations.EndingsHappenInTheTickThatBringsThemAbout := by
  intro s hhanded hlaw
  have hs := lawful_sound hlaw
  refine ⟨fun k rec hk hst => ?_, fun k rec h hk hst hone hroom => ?_, fun r hr => ?_⟩
  · have hl : rec.lapses = true := by simp [Record.lapses, hst]
    have hrow : s.engine.tickLapses k = true := by rw [Engine.tickLapses, hk]; exact hl
    refine taking_is_tick hhanded (P := fun t => t.engine.record k = _ ∧ ∀ r, k ∉ (t.engine.run r).queue) rfl hrow ?_
    have hlapsed := record_afterLapses_of_lapses hk hl
    rw [countdown_lapse hst] at hlapsed
    have htick : s.engine.tick.record k = _ := record_tick_of_dead hlapsed rfl
    refine ⟨htick, fun r hm => ?_⟩
    obtain ⟨m, hm⟩ := ((hs.tick.fits r).waits k).mp hm
    obtain ⟨x, hx, -, hw, -⟩ := claimsOn_waiting.mp hm
    rw [htick, Option.some.injEq] at hx
    rw [← hx] at hw
    exact absurd hw nofun
  · have hx : rec.expires = true := by simp [Record.expires, hst, hone]
    obtain ⟨hafter, hh⟩ := record_afterLapses_of_expires hk hx hroom
    have hrow : s.engine.tickExpires k = true := by simp [Engine.tickExpires, hk, hx, hafter, hh]
    refine taking_is_tick hhanded (P := fun t => t.engine.record k = _ ∧ (_ → _ → (t.engine.run _).state = _)) rfl hrow
      ⟨?_, tick_begins_quarantine hs hk hx hroom⟩
    rw [← countdown_revoke hst hone (s.engine.defn rec.resource).lead]
    exact record_tick_of_expiring (mem_slotsWhere.mpr ⟨rec, hk, hx⟩) hafter hh
  · have hrow : s.engine.tickEndsQuarantine r = true := by
      simp [Engine.tickEndsQuarantine, hr, afterExpiries_rests hs hr]
    exact taking_is_tick hhanded
      (P := fun t => (∀ w, (t.engine.run r).state ≠ .quarantine w) ∧ (_ → t.engine.run r = _)) rfl hrow (tick_ends_quarantine hs hr)

end Sys2Proof.Machine
end

section
/-! PROOF. The step, and takings and events that change nothing (logs 2, 3 and 4). -/

namespace Sys2Proof.Machine

/-! ## A step (R64, R65, R159) -/

/-- At the divider one reference period is the row TICK, the heartbeat pins standing as last presented. -/
theorem referencePeriod_at_divider {s : State} (hr : s.running = true) (hd : s.divider ≤ s.elapsed + 1) :
    .next s.referencePeriod = exec (.tick s.hbPins) s := by
  simp only [exec, execTick, State.referencePeriod, hr, hd, if_true]

/-- Settles O1: a step by whether a command waits, then by whether ARB has an item, then by TGEN. -/
theorem stepRunsTheFrontCommandOrIdles : Obligations.StepRunsTheFrontCommandOrIdles := by
  intro s
  refine ⟨fun c rest hp => by rw [step, hp], fun hp => ?_⟩
  have hidle : step s = idle s := by rw [step, hp]
  rw [hidle]
  refine ⟨fun c hh => by rw [idle, hh], fun hh => ?_⟩
  have hperiod : idle s = .next s.referencePeriod := by rw [idle, hh]
  rw [hperiod]
  refine ⟨fun hr => ?_, fun hr hd => ?_, fun hr hd => referencePeriod_at_divider hr hd⟩
  · simp [State.referencePeriod, hr]
  · simp [State.referencePeriod, hr, Nat.not_le.mpr hd]

/-! ## Takings that are not handed (R159 to R161) -/

theorem exec_client_not_handed {k : ClientKind} {n : Client} {s : State} (h : s.handed ≠ some (k.command n)) :
    exec (k.command n) s = .next s := by
  cases k <;> exact congrArg Host.Outcome.next (takeClient_not_handed h _)

theorem exec_mgmt_not_handed {k : MgmtKind} {s : State} (h : s.handed ≠ some k.command) :
    exec k.command s = .next s := by
  cases k
  case serviceReset => exact congrArg Host.Outcome.next (if_neg h)
  all_goals exact congrArg Host.Outcome.next (takeMgmt_not_handed h _)

/-! ## Endings that no waiting tick brings about (R71 to R73) -/

theorem tickLapses_false {e : Engine} {k : SlotId} (h : ∀ rec, e.record k = some rec →
    rec.standing ≠ .waiting (.ticks 1) ∧ rec.standing ≠ .waiting (.ticks 0)) : e.tickLapses k = false := by
  rw [Engine.tickLapses, Option.any_eq_false]
  intro rec hk
  obtain ⟨hone, hzero⟩ := h rec hk
  unfold Record.lapses
  split
  · rename_i p hst
    rw [hst] at hone hzero
    have h1 : p ≠ 1 := fun hp => hone (by rw [hp])
    have h0 : p ≠ 0 := fun hp => hzero (by rw [hp])
    exact decide_eq_false (by omega)
  · rfl

theorem tickExpires_false {e : Engine} {k : SlotId}
    (h : ∀ rec g, e.record k = some rec → rec.standing = .held g → 2 ≤ g.remaining) : e.tickExpires k = false := by
  have hnot : (e.record k).any Record.expires = false := by
    rw [Option.any_eq_false]
    intro rec hk
    unfold Record.expires
    split
    · rename_i x hst
      have := h rec x hk hst
      exact decide_eq_false (by omega)
    · rfl
  rw [Engine.tickExpires, hnot, Bool.false_and]

/-- A record that the tick expires it leaves REVOKED with cause EXPIRED (R72). -/
theorem revoked_of_tickExpires {e : Engine} {k : SlotId} (h : e.tickExpires k = true) :
    ∃ rec f, e.tick.record k = some rec ∧ rec.standing = .revoked f .expired := by
  rw [Engine.tickExpires, Bool.and_eq_true, Option.any_eq_true, Option.any_eq_true] at h
  obtain ⟨⟨x, hx, hmarked⟩, rec, hk, hh⟩ := h
  obtain ⟨g, hg⟩ := standing_of_isHeld hh
  refine ⟨_, g.fence, record_tick_of_expiring (mem_slotsWhere.mpr ⟨x, hx, hmarked⟩) hk hh, ?_⟩
  simp only [Record.revoke, hg]

theorem tickEndsQuarantine_false {e : Engine} {r : ResourceId} (h : ∀ q, (e.run r).state ≠ .quarantine q) :
    e.tickEndsQuarantine r = false := by
  unfold Engine.tickEndsQuarantine
  split
  · rename_i q _ hq _
    exact absurd hq (h q)
  · rfl

/-- Settles O3: a taking that is not handed and an ending that no tick brings about fail the guard of their row. -/
theorem takingsNotHandedChangeNothing : Obligations.TakingsNotHandedChangeNothing := by
  intro s
  have hrow : ∀ {p}, p = false → (.next (s.takeTickIf p) : Host.Outcome State Fault Refusal) = .next s :=
    fun hp => congrArg _ (takeTickIf_not hp)
  refine ⟨fun k n => exec_client_not_handed, fun k => exec_mgmt_not_handed, fun n hn => congrArg _ (if_neg hn),
    fun hn => ?_, fun k hk => hrow (tickLapses_false hk), fun k hk => hrow (tickExpires_false hk),
    fun _ k t ht hnone => ?_, fun r hr => hrow (tickEndsQuarantine_false hr), fun hlaw r w hr hw => ?_,
    fun hb l => ?_, fun hl => ?_, fun hp => ?_, fun hp a i => ?_⟩
  · have hsame : ∀ p, (.next (s.takeTickIf p) : Host.Outcome State Fault Refusal) = .next s :=
      fun p => congrArg _ (takeTickIf_not_handed hn p)
    exact ⟨hsame _, fun _ => hsame _, fun _ => hsame _, fun _ => hsame _⟩
  · by_cases hhanded : s.handed = some .tickTaken
    · refine hrow (Bool.eq_false_iff.mpr fun hx => ?_)
      obtain ⟨rec, f, hk, hst⟩ := revoked_of_tickExpires hx
      rw [exec_tickTaken hhanded] at ht
      cases ht
      exact hnone rec f hk hst
    · exact congrArg _ (takeTickIf_not_handed hhanded _)
  · refine hrow ?_
    simp only [Engine.tickEndsQuarantine, hr, afterExpiries_rests (lawful_sound hlaw) hr]
    exact decide_eq_false (by omega)
  · simp only [exec, execBurnEnd, hb]
  · simp only [exec, execLoadEnd, hl]
  · have hnot : ¬ (s.part = .starting ∧ s.restarting = true) := fun ⟨hstarting, hrestarting⟩ =>
      hp.elim (· hstarting) fun hr => absurd hrestarting (by rw [hr]; nofun)
    simp only [exec, execRestartComplete, if_neg hnot]
  · simp [exec, execResetPinRelease, hp]

end Sys2Proof.Machine
end

section
/-! PROOF. Renewal: RENEW and a renew-all under R78 and R79. -/

namespace Sys2Proof.Machine

/-! ## The renewal rule (R78, R79) -/

/-- R78: the three conditions under which a renewal is refused. -/
theorem contended_iff (e : Engine) (r : ResourceId) (h : Held) :
    e.contended r h = true ↔
      (e.run r).queue ≠ [] ∧ (e.profileOf r).limit (e.run r).band ≠ 0 ∧
        (e.profileOf r).limit (e.run r).band ≤ h.renewals := by
  simp [Engine.contended, and_assoc]

/-- R79: the held fields that a renewal for `asked` ticks leaves. -/
def Engine.renewedHeld (e : Engine) (r : ResourceId) (h : Held) (asked : Nat) : Held :=
  let left := min asked ((e.profileOf r).ceiling (e.run r).band)
  { state := stateByLead (e.defn r).lead left, remaining := left, fence := h.fence
    renewals := if h.renewals < 255 then h.renewals + 1 else h.renewals }

theorem renewed_eq (e : Engine) (rec : Record) (h : Held) (term : Option Nat) :
    let g := e.renewedHeld rec.resource h (term.getD rec.asked)
    e.renewed rec h term =
      ({ rec with
          asked := term.getD rec.asked
          standing := .held g
          unseen := { rec.unseen with
            warned := rec.unseen.warned || (decide (h.state = .active) && decide (g.state = .warned)) } }, g) := rfl

/-! ## RENEW (R77 to R80) -/

theorem renewTerm_getD (args : List Byte) (asked : Nat) :
    (renewTerm args).getD asked = if args.length = 4 then argWord args 2 else asked := by
  unfold renewTerm
  split <;> rfl

/-- Settles O23: the argument check, then RENEW's own rule by the record's standing. -/
theorem renewFollowsTheRenewalRule : Obligations.RenewFollowsTheRenewalRule := by
  intro n q s hkind h
  simp only [exec, execRenew, ← hkind]
  refine ⟨fun hl hz => congrArg _ (takeClient_of_unchanged h ?_), ?_⟩
  · have hterm : renewTerm q.args = some 0 := by rw [renewTerm, if_pos hl, hz]
    rw [renewRule, if_pos hterm]
  · rintro hterm k rec hreach rfl
    have hown : renewRule rec.client q.args (s.serve rec.client) = _ :=
      (if_neg (renewTerm_ne_zero hterm)).trans (withHandle_own (s := s.serve rec.client) hreach _)
    refine ⟨fun x hst => ⟨fun hcont => ?_, fun hcont => ?_⟩, fun p hst => ?_, fun f c hst => ?_, fun c hst => ?_⟩ <;>
      congr 1
    · exact takeClient_of_unchanged h
        (by simp only [hown, hst, State.serve_engine, (contended_iff _ _ _).mpr hcont, if_true, heldContent])
    · rw [← contended_iff, Bool.not_eq_true] at hcont
      refine takeClient_of_setEngine h ?_
      simp only [hown, hst, State.serve_engine, hcont, renewed_eq, renewTerm_getD, Bool.false_eq_true, if_false]
      rfl
    · exact takeClient_of_unchanged h (by simp only [hown, hst])
    · exact takeClient_of_unchanged h (by simp only [hown, hst, tombstoneAnswer])
    · exact takeClient_of_unchanged h (by simp only [hown, hst, tombstoneAnswer])

/-! ## RENEW_ALL (R131, R161) -/

section Line

variable {e : Engine} {n : Client} {rec : Record}

theorem renewLine_held {h : Held} (hst : rec.standing = .held h) (hn : rec.client = n)
    (hl : rec.lineRenewable = true) :
    e.renewLine n rec = if e.contended rec.resource h = true then rec else (e.renewed rec h none).1 := by
  cases hc : e.contended rec.resource h <;> simp [Engine.renewLine, hst, hn, hl, hc]

/-- A renew-all leaves what is not held, not the client's, or not line-renewable. -/
theorem renewLine_other (h : (∀ h, rec.standing ≠ .held h) ∨ rec.client ≠ n ∨ rec.lineRenewable = false) :
    e.renewLine n rec = rec := by
  unfold Engine.renewLine
  split
  · rename_i x hst
    refine if_neg fun ⟨hn, hl, _⟩ => ?_
    rcases h with hheld | hclient | hline
    · exact hheld x hst
    · exact hclient hn
    · exact absurd hl (by rw [hline]; nofun)
  · rfl

theorem renewAll_opened (ho : (e.session n).state = .opened) :
    e.renewAll n = e.mapRecords fun _ rec => e.renewLine n rec := if_pos ho

end Line

/-- Settles O17: the engine is the one of R131's visit to every record, each visit by R78 and R79. -/
theorem renewAllRenewsTheLineRenewableLeases : Obligations.RenewAllRenewsTheLineRenewableLeases := by
  intro n s hhanded
  refine ⟨s.engine.renewAll n, ?_, fun hno => if_neg hno, fun ho => ?_⟩
  · simp only [exec, execRenewAll, hhanded, if_true]
    rfl
  · rw [renewAll_opened ho]
    refine ⟨rfl, rfl, rfl, rfl, fun k => ⟨Engine.generation_mapRecords _ _ k, fun hk => ?_, fun rec hk => ⟨?_, ?_⟩⟩⟩
    · rw [Engine.record_mapRecords, hk, Option.map_none]
    · intro h hst hn hl p x left st contended
      rw [Engine.record_mapRecords, hk, Option.map_some, renewLine_held hst hn hl]
      simp only [contended_iff]
      rfl
    · intro hother
      rw [Engine.record_mapRecords, hk, Option.map_some, renewLine_other hother]

end Sys2Proof.Machine
end

section
/-! PROOF. The clock and the settings: SET QUOTA and SET DIVIDER, MAINTENANCE, and a tick produced. -/

namespace Sys2Proof.Machine

/-! ## SET QUOTA and SET DIVIDER (R66, R126, R175) -/

section Settings

variable {q : Request MgmtKind} {s : State} (h : s.admitsMgmt q)

include h

theorem exec_setQuota_bad (hkind : q.kind = .setQuota)
    (hbad : 6 ≤ argByte q.args 0 ∨ argByte q.args 1 = 0 ∨ 64 < argByte q.args 1) :
    exec .setQuota s = .next (s.afterMgmt q s.engine (.bare .badArg)) := by
  simp only [exec, execSetQuota, ← hkind]
  refine congrArg _ (takeMgmt_of_unchanged h ?_)
  by_cases hn : 6 ≤ argByte q.args 0
  · exact withClient_above hn _
  · have hout : ¬ (1 ≤ argByte q.args 1 ∧ argByte q.args 1 ≤ 64) := by omega
    exact (withClient_of_val (n := ⟨_, Nat.not_le.mp hn⟩) rfl _).trans (if_neg hout)

theorem exec_setQuota_good (hkind : q.kind = .setQuota) {n : Client} (hn : n.val = argByte q.args 0)
    (hlow : 1 ≤ argByte q.args 1) (hhigh : argByte q.args 1 ≤ 64) :
    exec .setQuota s = .next (s.afterMgmt q
      (s.engine.setSession n { s.engine.session n with quota := argByte q.args 1 }) (.bare .ok)) := by
  simp only [exec, execSetQuota, ← hkind]
  rw [takeMgmt_admitted h, setQuotaRule, withClient_of_val hn, if_pos ⟨hlow, hhigh⟩]
  rfl

theorem exec_setDivider (hkind : q.kind = .setDivider) :
    (argWord q.args 0 < 16 → exec .setDivider s = .next (s.afterMgmt q s.engine (.bare .badArg))) ∧
    (16 ≤ argWord q.args 0 →
      exec .setDivider s = .next (State.afterMgmt { s with divider := argWord q.args 0 } q s.engine
        { status := .ok, content := bytes2 (argWord q.args 0) })) := by
  simp only [exec, execSetDivider, ← hkind]
  refine ⟨fun hlow => congrArg _ (takeMgmt_of_unchanged h (if_pos hlow)), fun hin => ?_⟩
  have hout : ¬ argWord q.args 0 < Config.dividerMin := Nat.not_lt.mpr hin
  rw [takeMgmt_admitted h]
  simp only [setDividerRule, if_neg hout]
  rfl

end Settings

/-- Settles O35: SET QUOTA by its client and its range, SET DIVIDER by its range. -/
theorem setQuotaAndSetDivider : Obligations.SetQuotaAndSetDivider := fun _ _ h =>
  ⟨fun hkind => ⟨exec_setQuota_bad h hkind, fun _ => exec_setQuota_good h hkind⟩, exec_setDivider h⟩

/-! ## MAINTENANCE (R65, R68, R129, R130, R169) -/

/-- Settles O38: both requests are answered by their own rules, which say the same as the statement. -/
theorem maintenanceFreezesLeaseTime : Obligations.MaintenanceFreezesLeaseTime := by
  intro q s h
  refine ⟨fun hkind => ?_, fun hkind => ?_⟩
  · simp only [exec, execEnterMaintenance, ← hkind]
    rw [takeMgmt_admitted h]
    rfl
  · simp only [exec, execLeaveMaintenance, ← hkind]
    rw [takeMgmt_admitted h]
    rfl

/-! ## A tick produced (R64, R67, R128) -/

/-- R128: an edge in the direction selected, from a valid sample. -/
theorem edge_eq (sel : Selection) (previous : Sample) (high : Bool) :
    sel.edge previous high =
      ((decide (sel = .rising ∨ sel = .both) && decide (previous = .low) && high) ||
        (decide (sel = .falling ∨ sel = .both) && decide (previous = .high) && !high)) := by
  cases sel <;> cases previous <;> cases high <;> rfl

/-- R128: HBS takes every sample and accepts an edge while the session is OPEN. -/
theorem sample_eq (x : Heartbeat) (st : SessionState) (high : Bool) :
    x.sample (st == .opened) high =
      { selection := x.selection
        previous := if high then .high else .low
        renewalPending := x.renewalPending ||
          (((decide (x.selection = .rising ∨ x.selection = .both) && decide (x.previous = .low) && high) ||
            (decide (x.selection = .falling ∨ x.selection = .both) && decide (x.previous = .high) && !high)) &&
            decide (st = .opened)) } := by
  rw [Heartbeat.sample, edge_eq]
  rfl

/-- R67: the untaken count rises below 3; at 3 the tick is dropped and TICK_SLIP set. -/
theorem countTick_eq (s : State) :
    s.countTick = { s with
      untaken := if s.untaken < 3 then s.untaken + 1 else s.untaken
      engine := { s.engine with faults := { s.engine.faults with
        tickSlip := s.engine.faults.tickSlip || decide (3 ≤ s.untaken) } } } := by
  unfold State.countTick Config.untakenMax
  by_cases h : s.untaken < 3
  · simp [h, Nat.not_le.mpr h]
  · simp [h, Nat.le_of_not_lt h, State.setFaults, State.setEngine]

/-- Settles O49: frozen, TGEN produces nothing; running, the tick goes to HBS and to ARB. -/
theorem tickIsCountedOrSlipsAndSamplesHeartbeats : Obligations.TickIsCountedOrSlipsAndSamplesHeartbeats := by
  intro hb s
  refine ⟨fun hr => ?_, fun hr => ?_⟩
  · simp [exec, execTick, hr]
  · simp only [exec, execTick, hr, if_true, State.produceTick, countTick_eq, State.sampleHeartbeats, sample_eq]

end Sys2Proof.Machine
end

section
/-! PROOF. Contention bands: a run of the band rule, and SET PROFILE and READ PROFILE. -/

namespace Sys2Proof.Machine

/-! ## The steps of the band rule (R90) -/

section Steps

variable {p : Profile} {depth b : Nat}

/-- R90 step 1 has risen only into bands whose entry depth is reached. -/
theorem entry_reached_of_bandRise {fuel c : Nat} (hlow : b < c) (hup : c ≤ bandRise p depth fuel b) :
    p.threshold c + p.h ≤ depth := by
  induction fuel generalizing b with
  | zero => exact absurd hup (Nat.not_le.mpr hlow)
  | succ fuel ih =>
    rw [bandRise] at hup
    split at hup
    · rename_i hstep
      rcases Nat.eq_or_lt_of_le hlow with heq | hlt
      · exact heq ▸ hstep.2
      · exact ih hlt hup
    · exact absurd hup (Nat.not_le.mpr hlow)

/-- R90 step 2 has fallen only out of bands whose threshold the depth is below. -/
theorem below_threshold_of_bandFall {fuel c : Nat} (hdown : bandFall p depth fuel b < c) (hc : c ≤ b) :
    depth < p.threshold c := by
  induction fuel generalizing b with
  | zero => exact absurd hc (Nat.not_le.mpr hdown)
  | succ fuel ih =>
    rw [bandFall] at hdown
    split at hdown
    · rename_i hstep
      rcases Nat.eq_or_lt_of_le hc with heq | hlt
      · exact heq ▸ hstep.2
      · exact ih hdown (Nat.le_pred_of_lt hlt)
    · exact absurd hc (Nat.not_le.mpr hdown)

/-- A run ends higher exactly where step 1 rose: step 2 only falls. -/
theorem lt_ruledBand_iff (hb : b ≤ 3) : b < ruledBand p depth b ↔ b < bandRise p depth 3 b := by
  obtain ⟨hfall, -, -⟩ := bandFall_spec p depth 3 hb
  unfold ruledBand
  split
  · rfl
  · rename_i hrise
    exact iff_of_false (Nat.not_lt.mpr hfall) hrise

/-- A run enters only bands whose entry depth is reached. -/
theorem entry_reached_of_ruledBand (hb : b ≤ 3) {c : Nat} (hlow : b < c) (hup : c ≤ ruledBand p depth b) :
    p.threshold c + p.h ≤ depth := by
  have hrise := (lt_ruledBand_iff hb).mp (hlow.trans_le hup)
  rw [ruledBand, if_pos hrise] at hup
  exact entry_reached_of_bandRise hlow hup

/-- A run leaves downwards only bands whose threshold the depth is below. -/
theorem below_threshold_of_ruledBand {c : Nat} (hdown : ruledBand p depth b < c) (hc : c ≤ b) :
    depth < p.threshold c := by
  have hrise : ¬ b < bandRise p depth 3 b := fun hr => by
    rw [ruledBand, if_pos hr] at hdown
    omega
  rw [ruledBand, if_neg hrise] at hdown
  exact below_threshold_of_bandFall hdown hc

/-- A run rises where the depth has reached the next band's entry. -/
theorem lt_ruledBand_of_entry (hb : b < 3) (hd : p.threshold (b + 1) + p.h ≤ depth) : b < ruledBand p depth b := by
  obtain ⟨hle, -, hstop, -⟩ := bandRise_spec p depth 3 hb.le (by omega)
  refine (lt_ruledBand_iff hb.le).mpr (lt_of_le_of_ne hle fun heq => ?_)
  rw [← heq] at hstop
  exact absurd (hstop (by omega)) (Nat.not_lt.mpr hd)

/-- A run does not rise where the depth is short of the next band's entry. -/
theorem ruledBand_le_of_short (hb : b ≤ 3) (hd : depth < p.threshold (b + 1) + p.h) : ruledBand p depth b ≤ b := by
  by_contra hlt
  exact absurd (entry_reached_of_ruledBand hb (Nat.lt_succ_self b) (Nat.not_le.mp hlt)) (Nat.not_le.mpr hd)

/-- The band stays where a run does not rise and the depth is not below its threshold. -/
theorem ruledBand_eq_self (hrise : ¬ b < ruledBand p depth b) (hd : 1 ≤ b → p.threshold b ≤ depth) :
    ruledBand p depth b = b := by
  by_contra hne
  have hdown : ruledBand p depth b < b := by omega
  exact absurd (below_threshold_of_ruledBand hdown le_rfl) (Nat.not_lt.mpr (hd (by omega)))

end Steps

/-! ## The squeeze of a record (R94) -/

/-- A held record above the ceiling falls to it. -/
theorem squeeze_above {rec : Record} {h : Held} {lead c : Nat} (hs : rec.standing = .held h) (hc : c < h.remaining) :
    let st := if h.state = .warned then .warned else stateByLead lead c
    rec.squeeze lead c = { rec with
      standing := .held { h with state := st, remaining := c }
      unseen := { rec.unseen with
        squeezed := true
        warned := rec.unseen.warned || (decide (h.state = .active) && decide (st = .warned)) } } := by
  simp only [Record.squeeze, hs, if_pos hc]
  rfl

/-- Every other record is left as it is. -/
theorem squeeze_eq_self {rec : Record} {lead c : Nat} (h : ∀ g, rec.standing = .held g → g.remaining ≤ c) :
    rec.squeeze lead c = rec := by
  unfold Record.squeeze
  split
  · rename_i g hs
    exact if_neg (Nat.not_lt.mpr (h g hs))
  · rfl

/-! ## What a run of the band rule does (R90, R94) -/

section Run

variable {e : Engine} {r : ResourceId}

/-- A run that does not end higher sets the band alone. -/
theorem bandRule_of_not_rise (hb : (e.run r).band ≤ 3)
    (hrise : ¬ (e.run r).band < ruledBand (e.profileOf r) (e.run r).queue.length (e.run r).band) :
    e.bandRule r = e.setBand r (ruledBand (e.profileOf r) (e.run r).queue.length (e.run r).band) := by
  rw [bandRule_eq]
  exact if_neg fun h => hrise ((lt_ruledBand_iff hb).mpr h)

/-- A run that ends higher squeezes under the band it ends in. -/
theorem bandRule_of_rise (hb : (e.run r).band ≤ 3)
    (hrise : (e.run r).band < ruledBand (e.profileOf r) (e.run r).queue.length (e.run r).band) :
    e.bandRule r =
      (e.setBand r (ruledBand (e.profileOf r) (e.run r).queue.length (e.run r).band)).squeeze r := by
  rw [bandRule_eq]
  exact if_pos ((lt_ruledBand_iff hb).mp hrise)

theorem run_bandRule_of_ne {q : ResourceId} (h : q ≠ r) : (e.bandRule r).run q = e.run q := by
  rw [run_of_resources (bandRule_resources e r), Engine.setBand, Engine.run_setRun, if_neg h.symm]

/-- A record after a run of the band rule: squeezed where it is on the resource and the run rose. -/
theorem record_bandRule (hb : (e.run r).band ≤ 3) (k : SlotId) :
    (e.bandRule r).record k = (e.record k).map fun rec =>
      if rec.resource = r ∧ (e.run r).band < ((e.bandRule r).run r).band then
        rec.squeeze (e.defn r).lead ((e.profileOf r).ceiling ((e.bandRule r).run r).band)
      else rec := by
  rw [run_bandRule_self]
  by_cases hrise : (e.run r).band < ruledBand (e.profileOf r) (e.run r).queue.length (e.run r).band
  · rw [bandRule_of_rise hb hrise, Engine.squeeze, Engine.record_mapRecords, Engine.setBand]
    simp only [Engine.record_setRun, Engine.defn_setRun, Engine.profileOf_setRun, Engine.run_setRun_self, hrise,
      and_true]
  · rw [bandRule_of_not_rise hb hrise, Engine.setBand, Engine.record_setRun]
    simp only [hrise, and_false, if_false, Option.map_id']

end Run

/-- Settles O33: the steps by R90's two loops, the records by the squeeze. -/
theorem bandRuleEndsInTheLawAndSqueezesOnARise : Obligations.BandRuleEndsInTheLawAndSqueezesOnARise := by
  intro e r _ hb
  have hband : ((e.bandRule r).run r).band = ruledBand (e.profileOf r) (e.run r).queue.length (e.run r).band := by
    rw [run_bandRule_self]
  obtain ⟨htop, hreached, hshort⟩ := ruledBand_spec (e.profileOf r) (e.run r).queue.length hb
  rw [← hband] at htop hreached hshort
  refine ⟨htop, hreached, hshort, fun c hlow hup => ?_, fun c hdown hc => ?_, fun hrise hd => ?_, fun hlt hd => ?_,
    fun _ hd => ?_, by rw [hband]; exact run_bandRule_self e r, fun _ => run_bandRule_of_ne, bandRule_defn e r,
    bandRule_profiles e r, bandRule_sessions e r, bandRule_faults e r,
    fun k => ⟨bandRule_generation e r k, fun hk => ?_, fun rec hk => ⟨fun h hs hr hrise hc => ?_, fun hle => ?_⟩⟩⟩
  · exact entry_reached_of_ruledBand hb hlow (hband ▸ hup)
  · exact below_threshold_of_ruledBand (hband ▸ hdown) hc
  · rw [hband] at hrise ⊢
    exact ruledBand_eq_self hrise hd
  · rw [hband]
    exact lt_ruledBand_of_entry hlt hd
  · rw [hband]
    exact ruledBand_le_of_short hb hd
  · rw [record_bandRule hb, hk, Option.map_none]
  · rw [record_bandRule hb, hk]
    exact congrArg some ((if_pos ⟨hr, hrise⟩).trans (squeeze_above hs hc))
  · rw [record_bandRule hb, hk, Option.map_some]
    split
    · rename_i hsq
      rw [squeeze_eq_self fun g hg => hle g hg hsq.1 hsq.2]
    · rfl

/-! ## SET PROFILE and READ PROFILE (R87, R96, R175) -/

/-- R86: of twelve values that stand in bytes, the upper bounds of the ceilings and of the limits say nothing. -/
theorem inRange_iff_of_bytes {f : Nat → Nat} {x : Profile} (hx : profileOf f = x) (hf : ∀ i, f i < 256) :
    x.inRange = true ↔ (1 ≤ x.t1 ∧ x.t1 ≤ 63) ∧ (1 ≤ x.t2 ∧ x.t2 ≤ 63) ∧ (1 ≤ x.t3 ∧ x.t3 ≤ 63) ∧ x.h ≤ 7 ∧
      1 ≤ x.c0 ∧ 1 ≤ x.c1 ∧ 1 ≤ x.c2 ∧ 1 ≤ x.c3 := by
  have hword : ∀ i j, f i * 256 + f j ≤ 65535 := fun i j => by
    have := hf i
    have := hf j
    omega
  have hlimit : ∀ i, f i ≤ 255 := fun i => Nat.le_of_lt_succ (hf i)
  subst hx
  simp only [Profile.inRange, Bool.and_eq_true, List.all_cons, List.all_nil, decide_eq_true_eq]
  simp only [profileOf, hword, hlimit, and_true, and_assoc]

theorem profileByte_lt (m : Memory) (p : Fin 4) (i : Nat) : m.profileByte p i < 256 := BitVec.isLt _

theorem rerunBands_eq (e : Engine) (p : Fin 4) :
    e.rerunBands p = ((List.finRange 32).filter fun r =>
      decide ((e.defn r).profile = p) && decide ((e.run r).state ≠ .offline)).foldl Engine.bandRule e := by
  simp only [Engine.rerunBands, Bool.decide_and]

/-- SET PROFILE's own rule for a profile number that exists (R87, R96). -/
theorem setProfileRule_of_val {args : List Byte} {p : Fin 4} (hp : p.val = argByte args 0) (s : State) :
    setProfileRule args s =
      let x := profileOf (s.images.staging.profileByte p)
      if ¬ x.inRange then (s, .bare .badArg)
      else if ¬ x.ordered then (s, .bare .badProfile)
      else (s.setEngine ((s.engine.setProfile p x).rerunBands p), .bare .ok) := by
  have hlt : argByte args 0 < 4 := hp ▸ p.isLt
  obtain rfl : p = ⟨argByte args 0, hlt⟩ := Fin.ext hp
  exact dif_pos hlt

theorem setProfileRule_above {args : List Byte} (h : 4 ≤ argByte args 0) (s : State) :
    setProfileRule args s = (s, .bare .badArg) := dif_neg (Nat.not_lt.mpr h)

theorem readProfileRule_of_val {args : List Byte} {p : Fin 4} (hp : p.val = argByte args 0) (s : State) :
    readProfileRule args s = (s, { status := .ok, content := (Table.get s.engine.profiles p).bytes }) := by
  have hlt : argByte args 0 < 4 := hp ▸ p.isLt
  obtain rfl : p = ⟨argByte args 0, hlt⟩ := Fin.ext hp
  exact dif_pos hlt

theorem readProfileRule_above {args : List Byte} (h : 4 ≤ argByte args 0) (s : State) :
    readProfileRule args s = (s, .bare .badArg) := dif_neg (Nat.not_lt.mpr h)

/-- SET PROFILE on the staged profile `x`: out of range, out of order, and stored with the band reruns. -/
theorem exec_setProfile {q : Request MgmtKind} {s : State} (h : s.admitsMgmt q) (hkind : q.kind = .setProfile)
    {p : Fin 4} (hp : p.val = argByte q.args 0) {x : Profile}
    (hx : profileOf (s.images.staging.profileByte p) = x) :
    (¬ x.inRange → exec .setProfile s = .next (s.afterMgmt q s.engine (.bare .badArg))) ∧
    (x.inRange → ¬ x.ordered → exec .setProfile s = .next (s.afterMgmt q s.engine (.bare .badProfile))) ∧
    (x.inRange → x.ordered →
      exec .setProfile s = .next (s.afterMgmt q ((s.engine.setProfile p x).rerunBands p) (.bare .ok))) := by
  have hrule := setProfileRule_of_val hp s
  simp only [hx] at hrule
  simp only [exec, execSetProfile, ← hkind]
  refine ⟨fun hr => congrArg _ (takeMgmt_of_unchanged h ?_), fun hr ho => congrArg _ (takeMgmt_of_unchanged h ?_),
    fun hr ho => ?_⟩
  · rw [hrule, if_pos hr]
  · rw [hrule, if_neg (not_not.mpr hr), if_pos ho]
  · rw [takeMgmt_admitted h, hrule, if_neg (not_not.mpr hr), if_neg (not_not.mpr ho)]
    rfl

/-- Settles O32: both requests by their own rules, the staged bytes in R86's ranges. -/
theorem setProfileReplacesTheProfileAndRerunsTheBands : Obligations.SetProfileReplacesTheProfileAndRerunsTheBands := by
  intro q s h
  refine ⟨fun hkind => ⟨fun habove => ?_, fun p hp => ?_⟩, fun hkind => ⟨fun habove => ?_, fun p hp => ?_⟩⟩
  · simp only [exec, execSetProfile, ← hkind]
    exact congrArg _ (takeMgmt_of_unchanged h (setProfileRule_above habove s))
  · intro at_ x ranged ordered
    have hx : profileOf (s.images.staging.profileByte p) = x := by
      simp only [profileOf, Memory.profileByte, imageProfiles, x, at_, Nat.mul_comm]
    have hranged : x.inRange = true ↔ ranged := inRange_iff_of_bytes hx (profileByte_lt s.images.staging p)
    have hordered : x.ordered = true ↔ ordered := decide_eq_true_iff
    obtain ⟨hbad, hdisordered, hstored⟩ := exec_setProfile h hkind hp hx
    rw [hranged] at hbad hdisordered hstored
    rw [hordered] at hdisordered hstored
    rw [rerunBands_eq] at hstored
    exact ⟨hbad, hdisordered, hstored⟩
  · simp only [exec, execReadProfile, ← hkind]
    exact congrArg _ (takeMgmt_of_unchanged h (readProfileRule_above habove s))
  · simp only [exec, execReadProfile, ← hkind]
    exact congrArg _ (takeMgmt_of_unchanged h (readProfileRule_of_val hp s))

end Sys2Proof.Machine
end

section
/-! PROOF. The management controller's ways into and out of QUARANTINE: FORCE REVOKE and LIFT. -/

namespace Sys2Proof.Machine

/-- A management request whose rule changes the lease engine alone. -/
theorem takeMgmt_of_setEngine {s : State} {q : Request MgmtKind} {e : Engine} {a : Answer} (h : s.admitsMgmt q)
    {rule : List Byte → State → State × Answer} (hr : rule q.args s = (s.setEngine e, a)) :
    s.takeMgmt q.kind rule = s.afterMgmt q e a := by
  rw [takeMgmt_admitted h, hr, placeMgmt_setEngine_settle]

/-! ## A record that the management controller ends (R100, R101, R104, R110) -/

theorem startsQuarantine_iff {m : Mode} {w : Nat} {c : Cause} (hc : c ≠ .offline) :
    startsQuarantine m w c = true ↔ m = .exclusive ∧ w ≠ 0 := by
  simp [startsQuarantine, hc]

/-- R101's branch: a revocation that begins a quarantine leaves admission nothing to do; any other leaves the resource as
R43 gives, and admission runs. -/
theorem admission_revoke {e : Engine} {k : SlotId} {rec : Record} {c : Cause} (hk : e.record k = some rec)
    (hh : rec.isHeld = true) (hc : c ≠ .offline) :
    let gone := (e.putRecord k (rec.revokedBy c)).left rec.resource rec.mode
    let rest := (e.defn rec.resource).quarantine
    (e.revoke k c).admission rec.resource =
      if rec.mode = .exclusive ∧ rest ≠ 0 then
        gone.setRun rec.resource { gone.run rec.resource with state := .quarantine rest }
      else gone.admission rec.resource := by
  intro gone rest
  have hgone : (e.putRecord k (rec.revoke c)).depart rec.resource rec.mode = gone := depart_eq _ _ _
  simp only [Engine.revoke, hk, hh, if_true, hgone, startsQuarantine_iff hc]
  split
  · exact admission_quarantine (by rw [Engine.setState, Engine.run_setRun_self])
  · rfl

/-- The lapse of a waiter: it leaves its queue, the band rule runs, and its slot keeps the tombstone (R45, R110). -/
theorem lapse_of_waiting {e : Engine} {k : SlotId} {rec : Record} {p : Patience} (hk : e.record k = some rec)
    (hs : rec.standing = .waiting p) (c : Cause) :
    e.lapse k c = (e.unqueued rec.resource k).setSlot k
      { generation := (e.slot k).generation
        record := some { rec with standing := .lapsed c, unseen := { rec.unseen with lapsed := true } } } := by
  have hgen : ((e.leaveQueue rec.resource k).slot k).generation = (e.slot k).generation := bandRule_generation _ _ _
  simp only [Engine.lapse, hk, isWaiting_of_standing hs, if_true, Engine.putRecord, hgen, Record.lapse, hs]
  rfl

/-! ## FORCE REVOKE (R109, R110) -/

/-- Settles O26: the own rule of FORCE REVOKE, one branch for each standing of the record. -/
theorem forceRevokeEndsARecord : Obligations.ForceRevokeEndsARecord := by
  intro q s k rec hkind h hreach
  have ⟨_, _, hrec⟩ := hreach
  have hrule := withHandle_management hreach
  have hexec : exec .forceRevoke s = .next (s.takeMgmt q.kind forceRevokeRule) := by rw [hkind]; rfl
  rw [hexec]
  refine ⟨fun x hs => congrArg _ ?_, fun p hs => congrArg _ ?_, fun hs => congrArg _ ?_⟩
  · refine takeMgmt_of_setEngine h ?_
    rw [forceRevokeRule, hrule, hs]
    exact congrArg₂ Prod.mk (congrArg s.setEngine (admission_revoke hrec (isHeld_of_standing hs) nofun)) rfl
  · refine takeMgmt_of_setEngine h ?_
    rw [forceRevokeRule, hrule, hs]
    exact congrArg₂ Prod.mk
      (congrArg (fun e => s.setEngine (e.admission rec.resource)) (lapse_of_waiting hrec hs _)) rfl
  · refine takeMgmt_of_unchanged h ?_
    rcases hs with ⟨f, c, hs⟩ | ⟨c, hs⟩ <;> simp only [forceRevokeRule, hrule, hs]

/-! ## LIFT (R106, R107) -/

/-- LIFT's own rule on a resource, by whether it is in QUARANTINE (R107). -/
theorem liftRule_of_val {args : List Byte} {s : State} {r : ResourceId} (hr : r.val = argByte args 0) :
    liftRule args s =
      if (s.engine.run r).state.resting then
        let e := (s.engine.setState r .free).admission r
        (s.setEngine e, { status := .ok, content := [(e.run r).state.code] })
      else (s, .bare .wrongState) :=
  withResource_of_val hr _

/-- Settles O36: LIFT's own rule by the resource's state, and admission begins no quarantine. -/
theorem liftEndsAQuarantine : Obligations.LiftEndsAQuarantine := by
  intro q s hkind h
  have hexec : exec .lift s = .next (s.takeMgmt q.kind liftRule) := by rw [hkind]; rfl
  rw [hexec]
  refine ⟨fun habove => congrArg _ (takeMgmt_of_unchanged h (withResource_above habove _)), fun r hr => ⟨?_, ?_⟩⟩
  · intro hno
    have hrest : ¬ (s.engine.run r).state.resting = true := fun hx => (resting_iff.mp hx).elim hno
    exact congrArg _ (takeMgmt_of_unchanged h ((liftRule_of_val hr).trans (if_neg hrest)))
  · intro w hw
    have hrest : (s.engine.run r).state.resting = true := resting_iff.mpr ⟨w, hw⟩
    refine ⟨admission_not_quarantine fun v => ?_, congrArg _ (takeMgmt_of_setEngine h ?_)⟩
    · rw [Engine.run_setRun_self]
      nofun
    · exact (liftRule_of_val hr).trans (if_pos hrest)

end Sys2Proof.Machine
end

section
/-! PROOF. Client sessions and heartbeat lines: the session and epoch checks, OPEN, and SET HEARTBEAT. -/

namespace Sys2Proof.Machine

/-! ## Taking a client request -/

/-- Each client request is taken by its own rule (R155). -/
theorem exec_command_takes (k : ClientKind) (n : Client) (s : State) :
    ∃ rule, exec (k.command n) s = .next (s.takeClient k n rule) := by
  cases k <;> exact ⟨_, rfl⟩

/-- A request of any kind that the gating or the session checks refuse answers that status alone (R157). -/
theorem exec_command_refused {s : State} {n : Client} {q : Request ClientKind} {st : Status}
    (hh : s.handed = some (q.kind.command n)) (hq : (s.port n).standing = .queued q)
    (hr : s.clientRefusal n q = some st) :
    exec (q.kind.command n) s = .next (s.afterClient n q s.engine (.bare st)) := by
  obtain ⟨rule, hexec⟩ := exec_command_takes q.kind n s
  rw [hexec, takeClient_handed hh hq, answerClient_refused hr]

/-- A request whose rule changes the lease engine and the client's own heartbeat record. -/
theorem takeClient_of_setHeartbeat {s : State} {n : Client} {q : Request ClientKind} {e : Engine} {x : Heartbeat}
    {a : Answer} (h : s.admits n q) {rule : List Byte → State → State × Answer}
    (hr : rule q.args (s.serve n) = (((s.serve n).setEngine e).setHeartbeat n x, a)) :
    s.takeClient q.kind n rule =
      State.afterClient { s with heartbeats := Table.put s.heartbeats n x } n q e a := by
  rw [takeClient_admitted h, hr]
  rfl

/-! ## The session and epoch checks (R119, R157) -/

theorem sessionChecked_iff {k : ClientKind} : k.sessionChecked = true ↔ k ≠ .openSession ∧ k ≠ .status := by
  simp [ClientKind.sessionChecked]

/-- OPEN and STATUS pass no session check. -/
theorem clientRefusal_unchecked {s : State} {n : Client} {q : Request ClientKind} (hg : q.kind.gate s.part = none)
    (hk : q.kind = .openSession ∨ q.kind = .status) : s.clientRefusal n q = none := by
  have hc : ¬ q.kind.sessionChecked = true := fun hc =>
    have ⟨hopen, hstatus⟩ := sessionChecked_iff.mp hc
    hk.elim hopen hstatus
  rw [State.clientRefusal, hg]
  exact if_neg hc

/-- Every other request that the gating passes meets the session checks. -/
theorem clientRefusal_checked {s : State} {n : Client} {q : Request ClientKind} (hg : q.kind.gate s.part = none)
    (hk : q.kind ≠ .openSession ∧ q.kind ≠ .status) :
    s.clientRefusal n q = (s.engine.session n).check q.epoch := by
  rw [State.clientRefusal, hg]
  exact if_pos (sessionChecked_iff.mpr hk)

section Check

variable {x : Session}

theorem check_closed (h : x.state = .closed) (epoch : Byte) : x.check epoch = some .notOpen := by
  rw [Session.check, h]

theorem check_barred (h : x.state = .barred) (epoch : Byte) : x.check epoch = some .barred := by
  rw [Session.check, h]

theorem check_opened (h : x.state = .opened) (epoch : Byte) :
    x.check epoch = if epoch.toNat = x.epoch then none else some .staleSession := by
  rw [Session.check, h]

end Check

/-- Settles O10: the check by the session's state, each refusal brought to the request's taking. -/
theorem sessionAndEpochChecks : Obligations.SessionAndEpochChecks := by
  intro n q s hh hq hg
  refine ⟨fun hk => ⟨hh, hq, clientRefusal_unchecked hg hk⟩, fun hopen hstatus => ?_⟩
  have hcheck := clientRefusal_checked (n := n) hg ⟨hopen, hstatus⟩
  have refused : ∀ {st : Status}, (s.engine.session n).check q.epoch = some st →
      exec (q.kind.command n) s = .next (s.afterClient n q s.engine (.bare st)) :=
    fun hst => exec_command_refused hh hq (hcheck.trans hst)
  refine ⟨fun hc => refused (check_closed hc _), fun hb => refused (check_barred hb _), fun ho hne => ?_,
    fun ho heq => ⟨hh, hq, ?_⟩⟩
  · exact refused ((check_opened ho _).trans (if_neg hne))
  · exact hcheck.trans ((check_opened ho _).trans (if_pos heq))

/-! ## OPEN (R120, R121, R122) -/

/-- The answer of an OPEN that is not refused: the epoch that follows (R121). -/
def openAnswer (epoch : Nat) : Answer := { status := .ok, content := [byte (nextEpoch epoch)] }

/-- The end of a session keeps its epoch, from which the next one follows (R121, R122). -/
theorem epoch_endSession (e : Engine) (n : Client) : ((e.endSession n).session n).epoch = (e.session n).epoch := by
  obtain ⟨-, c, hc⟩ := changesCountOf_endSession e n
  rw [hc]

/-- The lease engine of a reopened session: ended as R122 gives, and open with the epoch after the old one's. -/
theorem reopened_eq (e : Engine) (n : Client) :
    (e.endSession n).openSession n = (e.sessionEnded n).setSession n
      { (e.sessionEnded n).session n with state := .opened, epoch := nextEpoch (e.session n).epoch } := by
  rw [← endSession_eq, ← epoch_endSession]
  rfl

/-- Of two writes of a heartbeat record the later stands. -/
theorem setHeartbeat_setHeartbeat (s : State) (n : Client) (x y : Heartbeat) :
    (s.setHeartbeat n x).setHeartbeat n y = s.setHeartbeat n y := by
  simp only [State.setHeartbeat, Table.put, Vector.set_set]

/-- OPEN's own rule on a CLOSED session (R120). -/
theorem openRule_closed {n : Client} {s : State} (h : (s.engine.session n).state = .closed) (args : List Byte) :
    openRule n args s =
      ((s.setEngine (s.engine.openSession n)).setHeartbeat n .cleared, openAnswer (s.engine.session n).epoch) := by
  simp only [openRule, h, State.startSession, State.setHeartbeat_engine, State.setEngine_engine,
    Engine.session_setSession_self]
  rfl

/-- OPEN's own rule on an OPEN session (R120): the heartbeat state is cleared twice, at the end of the old session and
at the start of the new one. -/
theorem openRule_opened {n : Client} {s : State} (h : (s.engine.session n).state = .opened) (args : List Byte) :
    openRule n args s =
      ((s.setEngine ((s.engine.endSession n).openSession n)).setHeartbeat n .cleared,
        openAnswer (s.engine.session n).epoch) := by
  have hend : (s.endSession n).startSession n =
      (s.setEngine ((s.engine.endSession n).openSession n)).setHeartbeat n .cleared :=
    setHeartbeat_setHeartbeat (s.setEngine ((s.engine.endSession n).openSession n)) n .cleared .cleared
  simp only [openRule, h, hend, State.setHeartbeat_engine, State.setEngine_engine, Engine.openSession,
    Engine.session_setSession_self, epoch_endSession, openAnswer]

/-- OPEN's own rule on a BARRED session (R120). -/
theorem openRule_barred {n : Client} {s : State} (h : (s.engine.session n).state = .barred) (args : List Byte) :
    openRule n args s = (s, .bare .barred) := by
  simp only [openRule, h]

/-- What the end of the old session and the start of the new one leave, on a lawful part (R117, R121, R122). -/
theorem reopened_leaves {s : State} (hlaw : s.lawful) (n : Client) :
    let x := s.engine.session n
    let e := (s.engine.endSession n).openSession n
    e.session n = { state := .opened, epoch := nextEpoch x.epoch, quota := x.quota, count := 0 } ∧
    (∀ m, m ≠ n → e.session m = s.engine.session m) ∧
    (∀ k, (e.record k).all fun rec => decide (rec.client ≠ n)) ∧
    ∀ r w, (e.run r).state = .quarantine w → (s.engine.run r).state = .quarantine w := by
  obtain ⟨⟨hcount, hsession, hepoch, -⟩, -⟩ := hlaw
  have ha := accounted_endSession ((accounted_iff _).mpr ⟨hcount, hsession, hepoch⟩) n
  obtain ⟨hothers, c, hc⟩ := changesCountOf_endSession s.engine n
  have howner := endSession_owner s.engine n
  have hzero := count_of_notOwned ha howner
  rw [hc] at hzero
  refine ⟨?_, fun m hm => ?_, fun k => ?_, beginsNoRest_endSession s.engine n⟩
  · rw [Engine.openSession, Engine.session_setSession_self, hc, show c = 0 from hzero]
  · rw [Engine.openSession, Engine.session_setSession, if_neg (Ne.symm hm), hothers m hm]
  · rw [Engine.openSession, Engine.record_setSession]
    cases hk : (s.engine.endSession n).record k with
    | none => rfl
    | some rec => simpa using howner k rec hk

/-- Settles O13: OPEN's own rule by the session's state, and what the reopening leaves. -/
theorem openStartsASessionWithTheNextEpoch : Obligations.OpenStartsASessionWithTheNextEpoch := by
  intro n q s hkind h
  have hexec : exec (.openSession n) s = .next (s.takeClient q.kind n (openRule n)) := by rw [hkind]; rfl
  rw [hexec]
  refine ⟨fun hc => congrArg _ (takeClient_of_setHeartbeat h (openRule_closed (s := s.serve n) hc _)),
    fun hb => congrArg _ (takeClient_of_unchanged h (openRule_barred (s := s.serve n) hb _)), fun ho => ?_⟩
  have hrule := takeClient_of_setHeartbeat h (openRule_opened (s := s.serve n) ho _)
  have hleaves := fun hlaw => reopened_leaves (s := s) hlaw n
  simp only [State.serve_engine, reopened_eq] at hrule hleaves
  exact ⟨congrArg _ hrule, hleaves⟩

/-! ## SET HEARTBEAT (R127) -/

theorem selectionOf_code (sel : Selection) : selectionOf sel.code.toNat = some sel := by
  cases sel <;> rfl

theorem selectionOf_unassigned {x : Nat} (h : 4 ≤ x) : selectionOf x = none := by
  unfold selectionOf
  split
  case h_5 => rfl
  all_goals omega

/-- Settles O16: the code by its reading, then SET HEARTBEAT's own rule. -/
theorem setHeartbeatTakesTheSelection : Obligations.SetHeartbeatTakesTheSelection := by
  intro n q s hkind h
  have hexec : exec (.setHeartbeat n) s = .next (s.takeClient q.kind n (setHeartbeatRule n)) := by rw [hkind]; rfl
  rw [hexec]
  refine ⟨fun sel hsel => congrArg _ (takeClient_of_setHeartbeat h ?_),
    fun hbad => congrArg _ (takeClient_of_unchanged h ?_)⟩
  · simp only [setHeartbeatRule, hsel, selectionOf_code]
    rfl
  · simp only [setHeartbeatRule, selectionOf_unassigned hbad]

end Sys2Proof.Machine
end

section
/-! PROOF. Notices: SCAN and ACK. -/

namespace Sys2Proof.Machine

/-! ## SCAN (R141) -/

section Scan

variable {n : Client} {s : State}

/-- SCAN's own rule where slot `k` is the lowest with a notice for the client. -/
theorem scanRule_of_first {k : SlotId} {rec : Record} (hf : s.engine.firstWhere (Record.noticed n) = some k)
    (hk : s.engine.record k = some rec) (args : List Byte) :
    scanRule n args s = (s,
      { status := .ok
        content := handleBytes k (s.engine.slot k).generation ++
          [rec.standing.code, byte rec.resource.val, rec.unseen.code, rec.standing.causeByte,
            byte (s.engine.countWhere (Record.noticed n))] }) := by
  simp only [scanRule, hf, hk, Option.map_some, Option.getD_some, List.append_assoc, List.cons_append, List.nil_append]

/-- SCAN's own rule where the client has no notice. -/
theorem scanRule_of_none (hf : s.engine.firstWhere (Record.noticed n) = none) (args : List Byte) :
    scanRule n args s = (s, { status := .none, content := [0] }) := by
  simp only [scanRule, hf]

end Scan

/-- Settles O27: SCAN's own rule by what the search for the lowest notice finds. -/
theorem scanReportsTheLowestNotice : Obligations.ScanReportsTheLowestNotice := by
  intro n q s hkind h noticed
  have hexec : exec (.scan n) s = .next (s.takeClient q.kind n (scanRule n)) := by rw [hkind]; rfl
  have hnoticed : Record.noticed n = noticed := funext (noticed_eq n)
  rw [hexec, ← hnoticed]
  refine ⟨fun k rec hk hrec hlowest => congrArg _ (takeClient_of_unchanged h ?_),
    fun hnone => congrArg _ (takeClient_of_unchanged h ?_)⟩
  · have hnotice : (s.engine.record k).any (Record.noticed n) = true := by rw [hk]; exact hrec
    exact scanRule_of_first (s := s.serve n) (firstWhere_least hnotice hlowest) hk _
  · exact scanRule_of_none (s := s.serve n) ((firstWhere_none _ _).mpr hnone) _

/-! ## ACK (R143, R144) -/

/-- The terminal member of a tombstone is named; no other record has one (R144). -/
theorem acknowledged_iff (x : Standing) (named : Unseen) :
    x.acknowledged named = true ↔
      ((∃ f c, x = .revoked f c) ∧ named.revoked = true) ∨ ((∃ c, x = .lapsed c) ∧ named.lapsed = true) := by
  cases x <;> simp [Standing.acknowledged]

/-- The change set that a set code below 32 carries (R191). -/
def changeSet (code : Nat) : Unseen :=
  { granted := code.testBit 0, warned := code.testBit 1, squeezed := code.testBit 2, revoked := code.testBit 3,
    lapsed := code.testBit 4 }

theorem changeSetOf_below {code : Nat} (h : code < 32) : changeSetOf code = some (changeSet code) := if_pos h

theorem changeSetOf_above {code : Nat} (h : 32 ≤ code) : changeSetOf code = none := if_neg (Nat.not_lt.mpr h)

section Ack

variable {s : State} {args : List Byte} {k : SlotId} {rec : Record}

theorem ackRule_of_badSet (h : 32 ≤ argByte args 2) (n : Client) : ackRule n args s = (s, .bare .badArg) := by
  simp only [ackRule, changeSetOf_above h]

/-- ACK's own rule on a tombstone whose terminal member is named: it is freed (R144). -/
theorem ackRule_of_acknowledged (hset : argByte args 2 < 32) (hreach : s.engine.reaches (argWord args 0) k rec)
    (hack : rec.standing.acknowledged (changeSet (argByte args 2)) = true) :
    ackRule rec.client args s = (s.setEngine (s.engine.vacated k rec),
      { status := .ok, content := [rec.standing.code, rec.standing.causeByte, 0, 1] }) := by
  have ⟨_, _, hrec⟩ := hreach
  simp only [ackRule, changeSetOf_below hset, withHandle_own hreach, hack, if_true, freeSlot_eq hrec]
  rfl

/-- ACK's own rule on every other record: the named members go and the record stays (R143). -/
theorem ackRule_of_not_acknowledged (hset : argByte args 2 < 32) (hreach : s.engine.reaches (argWord args 0) k rec)
    (hack : ¬ rec.standing.acknowledged (changeSet (argByte args 2)) = true) :
    let left := rec.unseen.without (changeSet (argByte args 2))
    ackRule rec.client args s = (s.setEngine (s.engine.putRecord k { rec with unseen := left }),
      { status := .ok, content := [rec.standing.code, rec.standing.causeByte, left.code, 0] }) := by
  simp only [ackRule, changeSetOf_below hset, withHandle_own hreach, if_neg hack]
  rfl

end Ack

/-- Settles O28: ACK's own rule by its set code, and by whether it names the terminal member of a tombstone. -/
theorem ackRemovesNoticesAndFreesTombstones : Obligations.AckRemovesNoticesAndFreesTombstones := by
  intro n q s hkind h
  have hexec : exec (.ack n) s = .next (s.takeClient q.kind n (ackRule n)) := by rw [hkind]; rfl
  rw [hexec]
  refine ⟨fun hbad => congrArg _ (takeClient_of_unchanged h (ackRule_of_badSet hbad n)), ?_⟩
  rintro k rec hset hreach rfl names terminal left
  have hterminal : rec.standing.acknowledged (changeSet (argByte q.args 2)) = true ↔ terminal := acknowledged_iff _ _
  rw [← hterminal]
  exact ⟨fun hack => congrArg _ (takeClient_of_setEngine h
      (ackRule_of_acknowledged (s := s.serve rec.client) hset hreach hack)),
    fun hack => congrArg _ (takeClient_of_setEngine h
      (ackRule_of_not_acknowledged (s := s.serve rec.client) hset hreach hack))⟩

end Sys2Proof.Machine
end

section
/-! PROOF. The client link: transactions and fetches at a client port, the part-state gating, and STATUS. -/

namespace Sys2Proof.Machine

/-! ## Transactions at a client port (R147 to R154) -/

section Served

variable {s : State} (hpin : s.resetPin = false) (n : Client) (stray : Fin 8)

include hpin

theorem serves_of_released : s.serves .served = true := by
  rw [serves_served, hpin, Bool.not_false]

/-- A request transaction that LINK serves is delivered to the port, filler driven in every byte position. -/
theorem exec_requestTransaction_served {header : Byte} (hh : header ≠ Config.fetchHeader) (rest : List Byte) :
    exec (.requestTransaction n .served (header :: rest) stray) s =
      .next { s with
        ports := Table.put s.ports n ((s.port n).deliver header (checkClientFrame (header :: rest)))
        clientData := List.replicate (rest.length + 1) Config.filler } := by
  have hrequest : ¬ (header :: rest).head? = some Config.fetchHeader := fun h => hh (Option.some.inj h)
  have hfiller : List.replicate (rest.length + 1) Config.filler = driven (rest.length + 1) [] := by
    simp only [driven, List.nil_append, List.take_replicate, Nat.min_self]
  rw [hfiller]
  exact congrArg Host.Outcome.next ((if_pos (serves_of_released hpin)).trans (if_neg hrequest))

/-- A fetch of a whole byte or more that LINK serves drives the port's bytes under filler and then filler. -/
theorem exec_fetch_served {clocked : Nat} (hc : 1 ≤ clocked) :
    exec (.fetch n .served clocked stray) s =
      .next { s with
        ports := Table.put s.ports n ((s.port n).afterFetch (clocked - 1))
        clientData := driven clocked (Config.filler :: (s.port n).fetchBytes) } :=
  congrArg Host.Outcome.next ((if_pos (serves_of_released hpin)).trans (if_neg (Nat.ne_of_gt hc)))

end Served

section NotServed

variable {s : State} {select : Select} (h : s.serves select = false) (n : Client) (stray : Fin 8)

include h

theorem exec_requestTransaction_not_served (bytes : List Byte) :
    exec (.requestTransaction n select bytes stray) s = .next s := by
  simp only [exec, execRequestTransaction, h, Bool.false_eq_true, if_false]

theorem exec_fetch_not_served (clocked : Nat) : exec (.fetch n select clocked stray) s = .next s := by
  simp only [exec, execFetch, h, Bool.false_eq_true, if_false]

end NotServed

/-- A transaction without a whole byte is of no effect, served or not (R147). -/
theorem exec_requestTransaction_empty (n : Client) (select : Select) (stray : Fin 8) (s : State) :
    exec (.requestTransaction n select [] stray) s = .next s :=
  congrArg Host.Outcome.next (ite_self s)

theorem exec_fetch_empty (n : Client) (select : Select) (stray : Fin 8) (s : State) :
    exec (.fetch n select 0 stray) s = .next s :=
  congrArg Host.Outcome.next (ite_self s)

/-- A transaction whose header is the FETCH code is the fetch of as many bytes (R148). -/
theorem exec_requestTransaction_fetch (n : Client) (select : Select) (rest : List Byte) (stray : Fin 8) (s : State) :
    exec (.requestTransaction n select (Config.fetchHeader :: rest) stray) s =
      exec (.fetch n select (rest.length + 1) stray) s := rfl

/-- Settles O6: the served transaction is R152's table, every other select is not served or clocks no byte. -/
theorem requestTransactionActsByThePortState : Obligations.RequestTransactionActsByThePortState := by
  intro n stray s
  exact ⟨fun header rest hpin hh => ⟨_, deliver_deliversTo _ _ _, exec_requestTransaction_served hpin n stray hh rest⟩,
    fun bytes => exec_requestTransaction_not_served (serves_passedOver s) n stray bytes,
    fun bytes => exec_requestTransaction_not_served (serves_cutByReset s) n stray bytes,
    fun select => exec_requestTransaction_empty n select stray s,
    fun select bytes hpin => exec_requestTransaction_not_served (serves_pin hpin select) n stray bytes,
    fun select rest => exec_requestTransaction_fetch n select rest stray s⟩

/-- Settles O7: the served fetch is R154's table, every other select is not served or clocks no byte. -/
theorem fetchDrivesThePortAndEmptiesItWhenRead : Obligations.FetchDrivesThePortAndEmptiesItWhenRead := by
  intro n clocked stray s
  refine ⟨fun hpin hc => ⟨_, _, afterFetch_fetchesTo _ _, exec_fetch_served hpin n stray hc⟩,
    exec_fetch_not_served (serves_passedOver s) n stray clocked,
    exec_fetch_not_served (serves_cutByReset s) n stray clocked, fun hnone select => ?_⟩
  rcases hnone with hpin | rfl
  · exact exec_fetch_not_served (serves_pin hpin select) n stray clocked
  · exact exec_fetch_empty n select stray s

/-! ## The part-state gating (R156) -/

/-- The kinds that MAINTENANCE refuses. -/
theorem gate_maintenance_iff (k : ClientKind) :
    k.gate .maintenance = some .maintenance ↔
      k ∈ [ClientKind.openSession, .acquire, .renew, .release, .cancel, .setHeartbeat] := by
  cases k <;> decide

/-- SAFE refuses every kind but STATUS. -/
theorem gate_safe {k : ClientKind} (h : k ≠ .status) : k.gate .safe = some .safe := if_neg h

/-- The gating passes what neither row of R156's table refuses. -/
theorem gate_none {k : ClientKind} {p : PartState}
    (hresting : ¬ (p = .maintenance ∧
      k ∈ [ClientKind.openSession, .acquire, .renew, .release, .cancel, .setHeartbeat]))
    (hsafe : ¬ (p = .safe ∧ k ≠ .status)) : k.gate p = none := by
  cases p with
  | starting => rfl
  | service => rfl
  | safe =>
    have hk : k = .status := Decidable.not_not.mp fun hne => hsafe ⟨rfl, hne⟩
    exact if_pos hk
  | maintenance =>
    have hk := mt (gate_maintenance_iff k).mp fun hmem => hresting ⟨rfl, hmem⟩
    cases k
    case openSession | acquire | renew | release | cancel | setHeartbeat => exact absurd rfl hk
    all_goals rfl

theorem clientRefusal_gated {s : State} {n : Client} {q : Request ClientKind} {st : Status}
    (h : q.kind.gate s.part = some st) : s.clientRefusal n q = some st := by
  rw [State.clientRefusal, h]

/-- Settles O9: each row of R156's table is the gating's own refusal, answered before any other check. -/
theorem partStateGatingOfClientRequests : Obligations.PartStateGatingOfClientRequests := by
  intro n q s hh hq
  have refused : ∀ {st : Status}, q.kind.gate s.part = some st →
      exec (q.kind.command n) s = .next (s.afterClient n q s.engine (.bare st)) :=
    fun hg => exec_command_refused hh hq (clientRefusal_gated hg)
  refine ⟨fun ⟨hp, hk⟩ => refused ?_, fun ⟨hp, hk⟩ => refused ?_, gate_none⟩
  · rw [hp, gate_maintenance_iff]
    exact hk
  · rw [hp, gate_safe hk]

/-! ## STATUS (R158) -/

/-- Settles O15: STATUS's own rule, its unseen bit being ATNn's condition (R139). -/
theorem statusReportsTheClientsStanding : Obligations.StatusReportsTheClientsStanding := by
  refine ⟨⟨rfl, rfl, rfl⟩, ⟨rfl, rfl, rfl⟩, ⟨rfl, rfl, rfl, rfl⟩, fun n q s hkind h => ?_⟩
  have hexec : exec (.status n) s = .next (s.takeClient q.kind n (statusRule n)) := by rw [hkind]; rfl
  rw [hexec]
  exact ⟨s.engine.hasNotice n, hasNotice_iff s.engine n, congrArg _ (takeClient_of_unchanged h rfl)⟩

end Sys2Proof.Machine
end

section
/-! PROOF. Frames: the checks of R150 at both ports, the layouts and codes of 12.2 and 12.3, and the CRC-8. -/

namespace Sys2Proof.Machine

/-! ## The layout of a frame (R149) -/

theorem byte_toNat {n : Nat} (h : n < 256) : (byte n).toNat = n := by
  rw [byte, BitVec.toNat_ofNat, Nat.mod_eq_of_lt h]

theorem byte_of_toNat (b : Byte) : byte b.toNat = b := by
  rw [byte, BitVec.ofNat_toNat, BitVec.setWidth_eq]

theorem frame_eq (kind epoch : Byte) (args : List Byte) :
    frame kind epoch args =
      [kind, epoch, byte args.length] ++ args ++ [crc8 ([kind, epoch, byte args.length] ++ args)] := rfl

theorem length_frame (kind epoch : Byte) (args : List Byte) : (frame kind epoch args).length = 4 + args.length := by
  simp only [frame_eq, List.length_append, List.length_cons, List.length_nil]
  omega

/-- The bytes before the check byte of a frame, and the check byte, which is their CRC-8. -/
theorem frame_parts (kind epoch : Byte) (args : List Byte) :
    (frame kind epoch args).take (3 + args.length) = [kind, epoch, byte args.length] ++ args ∧
    (frame kind epoch args).getD (3 + args.length) 0 = crc8 ([kind, epoch, byte args.length] ++ args) := by
  have hbody : ([kind, epoch, byte args.length] ++ args).length = 3 + args.length := by
    rw [List.length_append]
    rfl
  rw [frame_eq, ← hbody]
  exact ⟨List.take_left, by simp⟩

/-- The argument bytes of a frame stand from byte 3 on. -/
theorem frame_args (kind epoch : Byte) (args : List Byte) :
    ((frame kind epoch args).drop 3).take args.length = args := by
  simp [frame]

/-- A byte string as long as its length byte says, its check byte good, is the frame of its own fields. -/
theorem eq_frame_of_checks {bytes : List Byte} {n : Nat} (hn : (bytes.getD 2 0).toNat = n)
    (hlen : bytes.length = 4 + n) (hcrc : bytes.getD (3 + n) 0 = crc8 (bytes.take (3 + n))) :
    ((bytes.drop 3).take n).length = n ∧
      bytes = frame (bytes.getD 0 0) (bytes.getD 1 0) ((bytes.drop 3).take n) := by
  match bytes with
  | [] | [_] | [_, _] =>
    simp only [List.length_cons, List.length_nil] at hlen
    omega
  | kind :: epoch :: len :: rest =>
    have hrest : rest.length = n + 1 := by
      simp only [List.length_cons] at hlen
      omega
    have hargs : (rest.take n).length = n := by rw [List.length_take, hrest]; omega
    have hsplit : rest = rest.take n ++ [rest.getD n 0] := by
      conv_lhs => rw [← List.take_of_length_le (l := rest) (i := n + 1) (by omega), List.take_add_one]
      rw [List.getElem?_eq_getElem (by omega), List.getD_eq_getElem _ _ (by omega)]
      rfl
    simp only [List.getD_cons_succ, List.getD_cons_zero, List.drop_succ_cons, List.drop_zero, Nat.add_comm 3 n,
      List.take_succ_cons] at hn hcrc ⊢
    refine ⟨hargs, ?_⟩
    conv_lhs => rw [hsplit, hcrc]
    rw [frame, hargs, ← hn, byte_of_toNat]
    rfl

/-! ## The checks of R150 -/

section Checks

variable {κ : Type} {code : κ → Byte} {accepts : Nat → κ → Bool} {ofCode : Byte → Option κ}
  (hcode : ∀ c k, ofCode c = some k ↔ code k = c)

include hcode

theorem ofCode_none {c : Byte} : ofCode c = none ↔ ∀ k, code k ≠ c := by
  simp only [Option.eq_none_iff_forall_ne_some, ne_eq, hcode]

/-- The first check of R150's table that fails gives the answer. -/
theorem checkFrame_inOrder (bytes : List Byte) :
    checkedInOrder code accepts bytes (checkFrame ofCode accepts bytes) := by
  unfold checkedInOrder checkFrame
  intro n tooLong badFrame badCheck badKind badLength
  refine ⟨fun h1 => if_pos h1, fun h1 h2 => ?_, fun h1 h2 h3 => ?_, fun h1 h2 h3 h4 => ?_, fun h1 h2 h3 h4 h5 => ?_,
    fun h1 h2 h3 h4 => ?_⟩
  · rw [if_neg h1, if_pos h2]
  · rw [if_neg h1, if_neg h2, if_pos h3]
  all_goals rw [if_neg h1, if_neg h2, if_neg h3]
  · rw [(ofCode_none hcode).mpr h4]
  · obtain ⟨k, hk⟩ := not_forall_not.mp h4
    rw [(hcode _ _).mpr hk]
    exact if_neg (Bool.eq_false_iff.mp (h5 k hk))
  · obtain ⟨k, hk⟩ := not_forall.mp h4
    obtain ⟨hk, ha⟩ := Classical.not_imp.mp hk
    rw [(hcode _ _).mpr hk]
    exact ⟨_, if_pos (Bool.ne_false_iff.mp ha)⟩

/-- The checks accept exactly the frames of R149 for a kind of the port with a length it accepts. -/
theorem checkFrame_eq_request_iff (haccepts : ∀ k n, accepts n k = true → n ≤ 12) (bytes : List Byte) (q : Request κ) :
    checkFrame ofCode accepts bytes = .request q ↔
      bytes = frame (code q.kind) q.epoch q.args ∧ accepts q.args.length q.kind = true := by
  constructor
  · intro h
    unfold checkFrame at h
    simp only at h
    split_ifs at h with h1 h2 h3
    split at h
    · exact absurd h nofun
    · rename_i k hk
      split_ifs at h with ha
      cases h
      obtain ⟨hargs, hframe⟩ := eq_frame_of_checks rfl (by omega) (Decidable.not_not.mp h3)
      rw [hcode] at hk
      exact ⟨by rw [hk]; exact hframe, by rw [hargs]; exact ha⟩
  · rintro ⟨rfl, ha⟩
    have hn := haccepts _ _ ha
    have hlen := length_frame (code q.kind) q.epoch q.args
    have hcount : ((frame (code q.kind) q.epoch q.args).getD 2 0).toNat = q.args.length := byte_toNat (by omega)
    obtain ⟨hbody, hcheck⟩ := frame_parts (code q.kind) q.epoch q.args
    have hkind : ofCode ((frame (code q.kind) q.epoch q.args).getD 0 0) = some q.kind := (hcode _ _).mpr rfl
    unfold checkFrame
    simp only [hcount, hlen, hbody, hcheck, hkind, frame_args]
    rw [if_neg (by omega), if_neg (by omega), if_neg (not_not.mpr rfl), if_pos ha]
    rfl

end Checks

/-! ## The kinds of each port (12.2) -/

/-- The search of a list of kinds by code, where each kind is the first of the list with its own code. -/
theorem find_code_iff {κ : Type} {code : κ → Byte} {kinds : List κ}
    (hfirst : ∀ k, (kinds.find? fun j => code j == code k) = some k) (c : Byte) (k : κ) :
    (kinds.find? fun j => code j == c) = some k ↔ code k = c := by
  constructor
  · intro h
    exact eq_of_beq (List.find?_some (p := fun j => code j == c) h)
  · rintro rfl
    exact hfirst k

theorem clientKind_ofCode_iff (c : Byte) (k : ClientKind) : ClientKind.ofCode c = some k ↔ k.code = c :=
  find_code_iff (fun k => by cases k <;> rfl) c k

theorem mgmtKind_ofCode_iff (c : Byte) (k : MgmtKind) : MgmtKind.ofCode c = some k ↔ k.code = c :=
  find_code_iff (fun k => by cases k <;> rfl) c k

/-- No kind accepts more than 12 argument bytes. -/
theorem clientKind_accepts_le {k : ClientKind} {n : Nat} (h : k.accepts n = true) : n ≤ 12 := by
  cases k <;> simp only [ClientKind.accepts, Bool.or_eq_true, beq_iff_eq] at h <;> omega

theorem mgmtKind_accepts_le {k : MgmtKind} {n : Nat} (h : k.accepts n = true) : n ≤ 12 := by
  cases k <;> simp only [MgmtKind.accepts, Bool.and_eq_true, beq_iff_eq, decide_eq_true_eq] at h <;> omega

/-! ## The check byte (R149) -/

/-- One bit of the CRC-8, the most significant bit read as bit 7. -/
theorem crc8Bit_eq (c : Byte) : crc8Bit c = if c.getLsbD 7 then (c <<< 1) ^^^ 0x07 else c <<< 1 := rfl

/-- A byte more is taken in by eight bits of the CRC-8. -/
theorem crc8_append (l : List Byte) (b : Byte) : crc8 (l ++ [b]) = crc8Bit^[8] (crc8 l ^^^ b) := by
  rw [crc8, List.foldl_append]
  rfl

/-- Settles O5: both ports' checks are one check over their own kinds; the rest is the tables written out. -/
theorem frameChecksAcceptExactlyTheFramesOfR149 : Obligations.FrameChecksAcceptExactlyTheFramesOfR149 := by
  refine ⟨checkFrame_eq_request_iff clientKind_ofCode_iff fun _ _ => clientKind_accepts_le,
    checkFrame_eq_request_iff mgmtKind_ofCode_iff fun _ _ => mgmtKind_accepts_le,
    checkFrame_inOrder clientKind_ofCode_iff, checkFrame_inOrder mgmtKind_ofCode_iff, frame_eq,
    ⟨rfl, crc8_append⟩, ?_, ?_, ?_, ?_, ?_, ?_⟩
  · intro k n
    cases k <;> simp only [ClientKind.code, ClientKind.accepts, beq_eq_decide, Bool.decide_or]
  · intro k n
    cases k <;> simp only [MgmtKind.code, MgmtKind.accepts, beq_eq_decide, Bool.decide_and]
  · intro args i
    exact ⟨rfl, by rw [argWord, Nat.mul_comm], by rw [argLong, Nat.mul_comm]⟩
  · intro n
    exact ⟨rfl, rfl, rfl⟩
  · intro overlap priorDiscarded kind a
    cases overlap <;> cases priorDiscarded <;> exact ⟨rfl, rfl⟩
  · intro st
    cases st <;> rfl

end Sys2Proof.Machine
end

section
/-! PROOF. The engine arbiter: what it hands, what every command leaves of the queue of commands, and where the
round-robin pointer goes. -/

namespace Sys2Proof.Machine

/-! ## What ARB hands (R159 to R161) -/

section Handed

variable {s : State}

theorem clientItem_renewal {n : Client} (h : (s.heartbeat n).renewalPending = true) :
    s.clientItem n = some (.renewAll n) := if_pos h

theorem clientItem_queued {n : Client} {q : Request ClientKind} (h : (s.heartbeat n).renewalPending = false)
    (hq : (s.port n).standing = .queued q) : s.clientItem n = some (q.kind.command n) := by
  rw [State.clientItem, if_neg (Bool.eq_false_iff.mp h), hq]

theorem clientItem_none {n : Client} (h : (s.heartbeat n).renewalPending = false)
    (hq : ∀ q, (s.port n).standing ≠ .queued q) : s.clientItem n = none := by
  rw [State.clientItem, if_neg (Bool.eq_false_iff.mp h)]
  split
  · exact absurd ‹_› (hq _)
  · rfl

/-- The item at a client position is its renew-all or its request. -/
theorem clientItem_cases {n : Client} {c : Instr} (h : s.clientItem n = some c) :
    c = .renewAll n ∨ ∃ k : ClientKind, c = k.command n := by
  unfold State.clientItem at h
  split at h
  · exact .inl (Option.some.inj h).symm
  · split at h
    · exact .inr ⟨_, (Option.some.inj h).symm⟩
    · exact absurd h nofun

/-- A client turn takes the first position with an item, counted from the pointer. -/
theorem clientTurn_of_first {i : Fin 6} {c : Instr} (hbefore : ∀ j, j < i → s.clientItem (s.pointer + j) = none)
    (hi : s.clientItem (s.pointer + i) = some c) : s.clientTurn = some c := by
  have hfind : (List.finRange 6).find? (fun j => (s.clientItem (s.pointer + j)).isSome) = some i :=
    find_least _ i (by rw [hi]; rfl) fun j hj => by rw [hbefore j hj]; rfl
  obtain ⟨_, before, after, hsplit, hnone⟩ := List.find?_eq_some_iff_append.mp hfind
  rw [State.clientTurn, turnOrder, List.findSome?_map, hsplit]
  exact List.findSome?_eq_some_iff.mpr ⟨before, i, after, rfl, hi, fun j hj => by simpa using hnone j hj⟩

theorem clientTurn_none (h : ∀ n, s.clientItem n = none) : s.clientTurn = none :=
  List.findSome?_eq_none_iff.mpr fun n _ => h n

theorem handed_tick (hp : s.part = .service) (hu : 0 < s.untaken) : s.handed = some .tickTaken := by
  rw [State.handed, if_neg (by rw [hp]; nofun), if_pos ⟨hp, hu⟩]

section NoTick

variable (hp : s.part ≠ .starting) (hu : s.part ≠ .service ∨ s.untaken = 0)

include hp hu

theorem handed_mgmt {q : Request MgmtKind} (hq : s.mport.standing = .queued q) : s.handed = some q.kind.command := by
  have hnone : ¬ (s.part = .service ∧ 0 < s.untaken) := fun ⟨hs, hw⟩ => hu.elim (· hs) (Nat.ne_of_gt hw)
  rw [State.handed, if_neg hp, if_neg hnone, hq]

theorem handed_clientTurn (hq : ∀ q, s.mport.standing ≠ .queued q) : s.handed = s.clientTurn := by
  have hnone : ¬ (s.part = .service ∧ 0 < s.untaken) := fun ⟨hs, hw⟩ => hu.elim (· hs) (Nat.ne_of_gt hw)
  rw [State.handed, if_neg hp, if_neg hnone]
  split
  · exact absurd ‹_› (hq _)
  · rfl

end NoTick

end Handed

/-! ## The commands by what they take -/

/-- Every command takes a client's request, takes the management request, or is one of sixteen other happenings. -/
theorem Instr.byRow {P : Instr → Prop} (client : ∀ (k : ClientKind) n, P (k.command n))
    (mgmt : ∀ k : MgmtKind, P k.command)
    (requestTransaction : ∀ n select bytes stray, P (.requestTransaction n select bytes stray))
    (fetch : ∀ n select clocked stray, P (.fetch n select clocked stray))
    (managementWrite : ∀ start bytes, P (.managementWrite start bytes))
    (managementRead : ∀ start clocked, P (.managementRead start clocked))
    (restartComplete : P .restartComplete)
    (burnEnd : ∀ misread, P (.burnEnd misread))
    (tick : ∀ hb, P (.tick hb))
    (tickTaken : P .tickTaken)
    (lapse : ∀ k, P (.lapse k))
    (expiry : ∀ k, P (.expiry k))
    (quarantineEnd : ∀ r, P (.quarantineEnd r))
    (renewAll : ∀ n, P (.renewAll n))
    (powerOnReset : ∀ address imageSkip, P (.powerOnReset address imageSkip))
    (resetPinAssert : P .resetPinAssert)
    (resetPinRelease : ∀ address imageSkip, P (.resetPinRelease address imageSkip))
    (loadEnd : P .loadEnd) : ∀ c, P c
  | .openSession n => client .openSession n
  | .closeSession n => client .closeSession n
  | .status n => client .status n
  | .setHeartbeat n => client .setHeartbeat n
  | .acquire n => client .acquire n
  | .renew n => client .renew n
  | .release n => client .release n
  | .cancel n => client .cancel n
  | .scan n => client .scan n
  | .ack n => client .ack n
  | .queryLease (.client n) => client .queryLease n
  | .queryLease .management => mgmt .queryLease
  | .queryResource (.client n) => client .queryResource n
  | .queryResource .management => mgmt .queryResource
  | .checkFence (.client n) => client .checkFence n
  | .checkFence .management => mgmt .checkFence
  | .defineResource => mgmt .defineResource
  | .readDefinition => mgmt .readDefinition
  | .setProfile => mgmt .setProfile
  | .readProfile => mgmt .readProfile
  | .setQuota => mgmt .setQuota
  | .setDivider => mgmt .setDivider
  | .bar => mgmt .bar
  | .unbar => mgmt .unbar
  | .forceRevoke => mgmt .forceRevoke
  | .lift => mgmt .lift
  | .takeOffline => mgmt .takeOffline
  | .bringOnline => mgmt .bringOnline
  | .enterMaintenance => mgmt .enterMaintenance
  | .leaveMaintenance => mgmt .leaveMaintenance
  | .enterSafe => mgmt .enterSafe
  | .serviceReset => mgmt .serviceReset
  | .partStatus => mgmt .partStatus
  | .querySession => mgmt .querySession
  | .capture => mgmt .capture
  | .writeStaging => mgmt .writeStaging
  | .readStaging => mgmt .readStaging
  | .burn => mgmt .burn
  | .bankStatus => mgmt .bankStatus
  | .requestTransaction n select bytes stray => requestTransaction n select bytes stray
  | .fetch n select clocked stray => fetch n select clocked stray
  | .managementWrite start bytes => managementWrite start bytes
  | .managementRead start clocked => managementRead start clocked
  | .restartComplete => restartComplete
  | .burnEnd misread => burnEnd misread
  | .tick hb => tick hb
  | .tickTaken => tickTaken
  | .lapse k => lapse k
  | .expiry k => expiry k
  | .quarantineEnd r => quarantineEnd r
  | .renewAll n => renewAll n
  | .powerOnReset address imageSkip => powerOnReset address imageSkip
  | .resetPinAssert => resetPinAssert
  | .resetPinRelease address imageSkip => resetPinRelease address imageSkip
  | .loadEnd => loadEnd

/-! ## What lies aside of a request's rule -/

/-- What no request's own rule touches: the queue of commands and ARB's pointer. -/
structure State.KeepsAside (s t : State) : Prop where
  pending : t.pending = s.pending
  pointer : t.pointer = s.pointer

theorem keepsAside_refl (s : State) : s.KeepsAside s := ⟨rfl, rfl⟩

section Rules

variable {s : State}

theorem withHandle_keepsAside {owner : Option Client} {w : Nat} {rule : SlotId → Record → State × Answer}
    (h : ∀ k rec, s.KeepsAside (rule k rec).1) : s.KeepsAside (s.withHandle owner w rule).1 := by
  unfold State.withHandle
  split
  · exact keepsAside_refl s
  · split
    · exact h _ _
    · split
      · exact h _ _
      · exact keepsAside_refl s

theorem withResource_keepsAside {number : Nat} {rule : ResourceId → State × Answer}
    (h : ∀ r, s.KeepsAside (rule r).1) : s.KeepsAside (s.withResource number rule).1 := by
  unfold State.withResource
  split
  · exact h _
  · exact keepsAside_refl s

theorem withClient_keepsAside {number : Nat} {rule : Client → State × Answer}
    (h : ∀ n, s.KeepsAside (rule n).1) : s.KeepsAside (s.withClient number rule).1 := by
  unfold State.withClient
  split
  · exact h _
  · exact keepsAside_refl s

theorem acquireRule_keepsAside (n : Client) (args : List Byte) : s.KeepsAside (acquireRule n args s).1 := by
  unfold acquireRule
  split
  · exact ⟨rfl, rfl⟩
  · refine withResource_keepsAside fun r => ?_
    dsimp only
    split
    · exact ⟨rfl, rfl⟩
    · split
      · exact ⟨rfl, rfl⟩
      · split
        · split <;> exact ⟨rfl, rfl⟩
        · exact ⟨rfl, rfl⟩

theorem renewRule_keepsAside (n : Client) (args : List Byte) : s.KeepsAside (renewRule n args s).1 := by
  unfold renewRule
  split
  · exact ⟨rfl, rfl⟩
  · refine withHandle_keepsAside fun k rec => ?_
    split
    · split <;> exact ⟨rfl, rfl⟩
    all_goals exact ⟨rfl, rfl⟩

theorem ackRule_keepsAside (n : Client) (args : List Byte) : s.KeepsAside (ackRule n args s).1 := by
  unfold ackRule
  split
  · exact ⟨rfl, rfl⟩
  · exact withHandle_keepsAside fun k rec => by dsimp only; split <;> exact ⟨rfl, rfl⟩

theorem defineResourceRule_keepsAside (args : List Byte) : s.KeepsAside (defineResourceRule args s).1 := by
  unfold defineResourceRule
  split
  · exact ⟨rfl, rfl⟩
  · exact withResource_keepsAside fun r => by split <;> exact ⟨rfl, rfl⟩

theorem setProfileRule_keepsAside (args : List Byte) : s.KeepsAside (setProfileRule args s).1 := by
  unfold setProfileRule
  split
  · dsimp only
    split
    · exact ⟨rfl, rfl⟩
    · split <;> exact ⟨rfl, rfl⟩
  · exact ⟨rfl, rfl⟩

theorem takeOfflineRule_keepsAside (args : List Byte) : s.KeepsAside (takeOfflineRule args s).1 := by
  unfold takeOfflineRule
  split
  · exact ⟨rfl, rfl⟩
  · refine withResource_keepsAside fun r => ?_
    dsimp only
    split
    · exact ⟨rfl, rfl⟩
    · split <;> exact ⟨rfl, rfl⟩

theorem bringOnlineRule_keepsAside (args : List Byte) : s.KeepsAside (bringOnlineRule args s).1 := by
  refine withResource_keepsAside fun r => ?_
  dsimp only
  split
  · exact ⟨rfl, rfl⟩
  · split
    · exact ⟨rfl, rfl⟩
    · split <;> exact ⟨rfl, rfl⟩

theorem writeStagingRule_keepsAside (args : List Byte) : s.KeepsAside (writeStagingRule args s).1 := by
  unfold writeStagingRule
  dsimp only
  split
  · exact ⟨rfl, rfl⟩
  · split <;> exact ⟨rfl, rfl⟩

theorem burnRule_keepsAside (args : List Byte) : s.KeepsAside (burnRule args s).1 := by
  unfold burnRule
  split
  · exact ⟨rfl, rfl⟩
  · split
    · exact ⟨rfl, rfl⟩
    · split
      · exact ⟨rfl, rfl⟩
      · split <;> exact ⟨rfl, rfl⟩

end Rules

/-- Each client request is taken by a rule that leaves the queue of commands and the pointer alone. -/
theorem exec_client_takes_aside (k : ClientKind) (n : Client) (s : State) :
    ∃ rule : List Byte → State → State × Answer, (∀ args (t : State), t.KeepsAside (rule args t).1) ∧
      exec (k.command n) s = .next (s.takeClient k n rule) := by
  cases k <;> refine ⟨_, fun args t => ?_, rfl⟩
  case openSession => unfold openRule; split <;> exact ⟨rfl, rfl⟩
  case closeSession => exact ⟨rfl, rfl⟩
  case status => exact ⟨rfl, rfl⟩
  case setHeartbeat => unfold setHeartbeatRule; split <;> exact ⟨rfl, rfl⟩
  case acquire => exact acquireRule_keepsAside _ args
  case renew => exact renewRule_keepsAside _ args
  case release => exact withHandle_keepsAside fun k rec => by split <;> exact ⟨rfl, rfl⟩
  case cancel => exact withHandle_keepsAside fun k rec => by split <;> exact ⟨rfl, rfl⟩
  case scan => unfold scanRule; dsimp only; split <;> exact ⟨rfl, rfl⟩
  case ack => exact ackRule_keepsAside _ args
  case queryLease => exact withHandle_keepsAside fun _ _ => ⟨rfl, rfl⟩
  case queryResource => exact withResource_keepsAside fun _ => ⟨rfl, rfl⟩
  case checkFence => exact withResource_keepsAside fun _ => ⟨rfl, rfl⟩

/-- Each management request but SERVICE RESET is taken by a rule that leaves the queue of commands and the pointer
alone. -/
theorem exec_mgmt_takes_aside {k : MgmtKind} (hk : k ≠ .serviceReset) (s : State) :
    ∃ rule : List Byte → State → State × Answer, (∀ args (t : State), t.KeepsAside (rule args t).1) ∧
      exec k.command s = .next (s.takeMgmt k rule) := by
  cases k
  case serviceReset => exact absurd rfl hk
  all_goals refine ⟨_, fun args t => ?_, rfl⟩
  case queryLease => exact withHandle_keepsAside fun _ _ => ⟨rfl, rfl⟩
  case queryResource => exact withResource_keepsAside fun _ => ⟨rfl, rfl⟩
  case checkFence => exact withResource_keepsAside fun _ => ⟨rfl, rfl⟩
  case defineResource => exact defineResourceRule_keepsAside args
  case readDefinition => exact withResource_keepsAside fun _ => ⟨rfl, rfl⟩
  case setProfile => exact setProfileRule_keepsAside args
  case readProfile => unfold readProfileRule; split <;> exact ⟨rfl, rfl⟩
  case setDivider => unfold setDividerRule; dsimp only; split <;> exact ⟨rfl, rfl⟩
  case setQuota => exact withClient_keepsAside fun n => by dsimp only; split <;> exact ⟨rfl, rfl⟩
  case bar => exact withClient_keepsAside fun n => by split <;> exact ⟨rfl, rfl⟩
  case unbar => exact withClient_keepsAside fun n => by split <;> exact ⟨rfl, rfl⟩
  case forceRevoke => exact withHandle_keepsAside fun k rec => by split <;> exact ⟨rfl, rfl⟩
  case lift => exact withResource_keepsAside fun r => by split <;> exact ⟨rfl, rfl⟩
  case takeOffline => exact takeOfflineRule_keepsAside args
  case bringOnline => exact bringOnlineRule_keepsAside args
  case enterMaintenance | leaveMaintenance | enterSafe => exact ⟨rfl, rfl⟩
  case partStatus => unfold partStatusRule; split <;> exact ⟨rfl, rfl⟩
  case querySession => exact withClient_keepsAside fun _ => ⟨rfl, rfl⟩
  case capture => unfold captureRule; split <;> exact ⟨rfl, rfl⟩
  case writeStaging => exact writeStagingRule_keepsAside args
  case readStaging => unfold readStagingRule; dsimp only; split <;> exact ⟨rfl, rfl⟩
  case burn => exact burnRule_keepsAside args
  case bankStatus => exact ⟨rfl, rfl⟩

/-! ## What lies aside of every other happening -/

section Happenings

variable (s : State)

theorem serveFetch_keepsAside (n : Client) (clocked : Nat) : s.KeepsAside (s.serveFetch n clocked) := by
  unfold State.serveFetch
  split <;> exact ⟨rfl, rfl⟩

theorem serveRequest_keepsAside (n : Client) (bytes : List Byte) : s.KeepsAside (s.serveRequest n bytes) := by
  unfold State.serveRequest
  split <;> exact ⟨rfl, rfl⟩

theorem mportWrite_keepsAside (address : BitVec 7) (bytes : List Byte) :
    s.KeepsAside (s.mportWrite address bytes) := by
  unfold State.mportWrite
  split
  · split <;> exact ⟨rfl, rfl⟩
  · exact ⟨rfl, rfl⟩

theorem mportRead_keepsAside (address : BitVec 7) (clocked : Nat) : s.KeepsAside (s.mportRead address clocked) := by
  unfold State.mportRead
  split <;> exact ⟨rfl, rfl⟩

theorem produceTick_keepsAside (hb : Vector Bool 6) : s.KeepsAside (s.produceTick hb) := by
  unfold State.produceTick State.countTick
  split <;> exact ⟨rfl, rfl⟩

theorem takeTickIf_keepsAside (p : Bool) : s.KeepsAside (s.takeTickIf p) := by
  unfold State.takeTickIf
  split <;> exact ⟨rfl, rfl⟩

theorem finishLoad_keepsAside (src : LoadSource) : s.KeepsAside (s.finishLoad src) := by
  unfold State.finishLoad
  dsimp only
  split <;> exact ⟨rfl, rfl⟩

end Happenings

/-! ## The pointer (R161, R162) -/

/-- What the command `c` in state `s` makes of the pointer: nothing, where it is not the client turn that ARB hands;
the position after the one served, where it is; position 0, at each kind of reset. -/
inductive State.MovesPointer (s : State) (c : Instr) (t : State) : Prop
  | kept (hp : t.pointer = s.pointer) (hc : ∀ n, s.clientItem n = some c → s.handed ≠ some c)
  | served (n : Client) (hp : t.pointer = n + 1) (hi : s.clientItem n = some c) (hh : s.handed = some c)
  | reset (hp : t.pointer = 0) (hc : (∃ a i, c = .powerOnReset a i) ∨ c = .resetPinAssert ∨ c = .serviceReset)

/-- A command leaves the queue of commands as it was, and moves the pointer as R161 and R162 say. -/
def State.StepsAside (s : State) (c : Instr) : Prop :=
  ∃ t, exec c s = .next t ∧ t.pending = s.pending ∧ s.MovesPointer c t

theorem clientCommand_ne {c : Instr} (hr : requestOf c = none) (k : ClientKind) (n : Client) : k.command n ≠ c := by
  rintro rfl
  rw [requestOf_client] at hr
  exact absurd hr nofun

section Steps

variable {s t : State}

theorem clientItem_ne {c : Instr} (hr : requestOf c = none) (hn : ∀ n, c ≠ .renewAll n) (n : Client) :
    s.clientItem n ≠ some c := by
  intro h
  rcases clientItem_cases h with rfl | ⟨k, rfl⟩
  · exact hn n rfl
  · exact clientCommand_ne hr k n rfl

/-- A command that takes no client turn and leaves the pointer. -/
theorem stepsAside_of_keepsAside {c : Instr} (hexec : exec c s = .next t) (hk : s.KeepsAside t)
    (hr : requestOf c = none) (hn : ∀ n, c ≠ .renewAll n) : s.StepsAside c :=
  ⟨t, hexec, hk.pending, .kept hk.pointer fun n hi => absurd hi (clientItem_ne hr hn n)⟩

/-- A taking that is not handed leaves the whole part as it was (log 2). -/
theorem stepsAside_of_not_handed {c : Instr} (hexec : exec c s = .next s) (hh : s.handed ≠ some c) :
    s.StepsAside c := ⟨s, hexec, rfl, .kept rfl fun _ _ => hh⟩

theorem keepsAside_ite {p : Prop} [Decidable p] (h : s.KeepsAside t) : s.KeepsAside (if p then t else s) := by
  split
  · exact h
  · exact keepsAside_refl s

/-- The client item that ARB hands stands at its client's position. -/
theorem clientItem_of_handed {s : State} {c : Instr} (hh : s.handed = some c) (hc : ∀ k : MgmtKind, c ≠ k.command)
    (ht : c ≠ .tickTaken) : ∃ n, s.clientItem n = some c := by
  unfold State.handed at hh
  split at hh
  · exact absurd hh nofun
  · split at hh
    · exact absurd (Option.some.inj hh).symm ht
    · split at hh
      · exact absurd (Option.some.inj hh).symm (hc _)
      · obtain ⟨n, -, hn⟩ := List.exists_of_findSome?_eq_some hh
        exact ⟨n, hn⟩

/-- A client request that is taken leaves the pointer after its client's position. -/
theorem answerClient_aside {rule : List Byte → State → State × Answer}
    (hrule : ∀ args (t : State), t.KeepsAside (rule args t).1) (n : Client) (q : Request ClientKind) :
    (s.answerClient n q rule).pending = s.pending ∧ (s.answerClient n q rule).pointer = n + 1 := by
  cases hr : s.clientRefusal n q with
  | none =>
    obtain ⟨hpending, hpointer⟩ := hrule q.args (s.serve n)
    rw [answerClient_passed hr]
    exact ⟨hpending, hpointer⟩
  | some st =>
    rw [answerClient_refused hr]
    exact ⟨rfl, rfl⟩

theorem stepsAside_client (k : ClientKind) (n : Client) : s.StepsAside (k.command n) := by
  by_cases hh : s.handed = some (k.command n)
  · obtain ⟨rule, hrule, hexec⟩ := exec_client_takes_aside k n s
    obtain ⟨q, hq, -⟩ := handed_request hh
    rw [takeClient_handed hh hq] at hexec
    obtain ⟨hpending, hpointer⟩ := answerClient_aside (s := s) hrule n q
    obtain ⟨m, hm⟩ := clientItem_of_handed hh (fun j => clientCommand_ne (requestOf_mgmt j) k n)
      (clientCommand_ne rfl k n)
    obtain ⟨rfl, -⟩ := clientItem_request hm (requestOf_client k n)
    exact ⟨_, hexec, hpending, .served m hpointer hm hh⟩
  · exact stepsAside_of_not_handed (exec_client_not_handed hh) hh

theorem stepsAside_renewAll (n : Client) : s.StepsAside (.renewAll n) := by
  by_cases hh : s.handed = some (.renewAll n)
  · obtain ⟨m, hm⟩ := clientItem_of_handed hh (fun j => by cases j <;> nofun) nofun
    rcases clientItem_cases hm with h | ⟨k, h⟩
    · cases h
      exact ⟨_, congrArg Host.Outcome.next (if_pos hh), rfl, .served n rfl hm hh⟩
    · exact absurd h.symm (clientCommand_ne rfl k m)
  · exact stepsAside_of_not_handed (congrArg Host.Outcome.next (if_neg hh)) hh

theorem takeMgmt_keepsAside {rule : List Byte → State → State × Answer}
    (hrule : ∀ args (t : State), t.KeepsAside (rule args t).1) (k : MgmtKind) :
    s.KeepsAside (s.takeMgmt k rule) := by
  unfold State.takeMgmt
  refine keepsAside_ite ?_
  split
  · rename_i q _
    obtain ⟨hpending, hpointer⟩ := hrule q.args s
    unfold State.answerMgmt
    dsimp only
    split
    · exact ⟨hpending, hpointer⟩
    · exact ⟨rfl, rfl⟩
  · exact keepsAside_refl s

theorem pending_restart (s : State) : s.restart.pending = s.pending := by
  have hmark : s.markCut.pending = s.pending := by
    unfold State.markCut
    split <;> rfl
  have hcut : s.markCut.cutBurn.pending = s.markCut.pending := by rw [cutBurn_eq]
  exact hcut.trans hmark

theorem exec_serviceReset_handed (hh : s.handed = some .serviceReset) :
    exec .serviceReset s = .next (s.placeMgmt .serviceReset (.bare .ok)).restart.settle :=
  congrArg Host.Outcome.next (if_pos hh)

theorem stepsAside_mgmt (k : MgmtKind) : s.StepsAside k.command := by
  by_cases hk : k = .serviceReset
  · subst hk
    by_cases hh : s.handed = some .serviceReset
    · exact ⟨_, exec_serviceReset_handed hh, pending_restart (s.placeMgmt .serviceReset (.bare .ok)),
        .reset rfl (.inr (.inr rfl))⟩
    · exact stepsAside_of_not_handed (exec_mgmt_not_handed (k := .serviceReset) hh) hh
  · obtain ⟨rule, hrule, hexec⟩ := exec_mgmt_takes_aside hk s
    exact stepsAside_of_keepsAside hexec (takeMgmt_keepsAside hrule k) (requestOf_mgmt k) fun n => by cases k <;> nofun

end Steps

/-- What every command makes of the queue of commands and of the pointer, a row at a time. -/
theorem exec_stepsAside (c : Instr) (s : State) : s.StepsAside c := by
  induction c using Instr.byRow with
  | client k n => exact stepsAside_client k n
  | mgmt k => exact stepsAside_mgmt k
  | renewAll n => exact stepsAside_renewAll n
  | requestTransaction n select bytes stray =>
    refine stepsAside_of_keepsAside rfl (keepsAside_ite ?_) rfl nofun
    split
    · exact serveFetch_keepsAside s n _
    · exact serveRequest_keepsAside s n bytes
  | fetch n select clocked stray =>
    exact stepsAside_of_keepsAside rfl (keepsAside_ite (serveFetch_keepsAside s n clocked)) rfl nofun
  | managementWrite start bytes =>
    refine stepsAside_of_keepsAside rfl ?_ rfl nofun
    split
    · exact keepsAside_refl s
    · exact mportWrite_keepsAside s _ bytes
  | managementRead start clocked =>
    refine stepsAside_of_keepsAside rfl ?_ rfl nofun
    split
    · exact keepsAside_refl s
    · exact mportRead_keepsAside s _ clocked
  | restartComplete => exact stepsAside_of_keepsAside rfl (keepsAside_ite ⟨rfl, rfl⟩) rfl nofun
  | burnEnd misread =>
    refine stepsAside_of_keepsAside rfl ?_ rfl nofun
    split
    · exact keepsAside_refl s
    · dsimp only
      split <;> exact ⟨rfl, rfl⟩
  | tick hb => exact stepsAside_of_keepsAside rfl (keepsAside_ite (produceTick_keepsAside s hb)) rfl nofun
  | tickTaken => exact stepsAside_of_keepsAside rfl (takeTickIf_keepsAside s _) rfl nofun
  | lapse k => exact stepsAside_of_keepsAside rfl (takeTickIf_keepsAside s _) rfl nofun
  | expiry k => exact stepsAside_of_keepsAside rfl (takeTickIf_keepsAside s _) rfl nofun
  | quarantineEnd r => exact stepsAside_of_keepsAside rfl (takeTickIf_keepsAside s _) rfl nofun
  | powerOnReset address imageSkip =>
    exact ⟨_, execPowerOnReset_eq address imageSkip s, rfl, .reset rfl (.inl ⟨address, imageSkip, rfl⟩)⟩
  | resetPinAssert => exact ⟨_, execResetPinAssert_eq s, rfl, .reset rfl (.inr (.inl rfl))⟩
  | resetPinRelease address imageSkip =>
    exact stepsAside_of_keepsAside rfl (keepsAside_ite ⟨rfl, rfl⟩) rfl nofun
  | loadEnd =>
    refine stepsAside_of_keepsAside rfl ?_ rfl nofun
    split
    · exact finishLoad_keepsAside s _
    · exact keepsAside_refl s

/-- Settles O2: what every command makes of the queue of commands. -/
theorem everyCommandAnswersNextAndKeepsTheQueue : Obligations.EveryCommandAnswersNextAndKeepsTheQueue := by
  intro c s
  obtain ⟨t, hexec, hpending, -⟩ := exec_stepsAside c s
  exact ⟨t, hexec, hpending⟩

/-- Each kind of reset that takes effect sets the pointer to position 0 (R162). -/
theorem pointer_of_reset {c : Instr} {s t : State} (h : exec c s = .next t)
    (hc : (∃ a i, c = .powerOnReset a i) ∨ c = .resetPinAssert ∨ (c = .serviceReset ∧ s.handed = some c)) :
    t.pointer = 0 := by
  rcases hc with ⟨a, i, rfl⟩ | rfl | ⟨rfl, hh⟩
  · rw [execPowerOnReset_eq] at h
    cases h
    rfl
  · rw [execResetPinAssert_eq] at h
    cases h
    rfl
  · rw [exec_serviceReset_handed hh] at h
    cases h
    rfl

/-- Settles O4: ARB's order case by case, then the pointer from what every command makes of it. -/
theorem arbiterHandsInOrderAndMovesThePointer : Obligations.ArbiterHandsInOrderAndMovesThePointer := by
  refine ⟨fun s => ⟨fun n => ⟨clientItem_renewal, fun h => ⟨fun q => clientItem_queued h, clientItem_none h⟩⟩,
    handed_starting, handed_tick, fun hp hu => ⟨fun q => handed_mgmt hp hu, fun hq => ?_⟩⟩, fun c s t h => ?_⟩
  · rw [handed_clientTurn hp hu hq]
    exact ⟨fun i c => clientTurn_of_first, clientTurn_none⟩
  · refine ⟨fun hpower hpin hservice => ?_, pointer_of_reset h⟩
    obtain ⟨t', hexec, -, hmoves⟩ := exec_stepsAside c s
    obtain rfl : t = t' := by
      rw [hexec] at h
      exact (Host.Outcome.next.inj h).symm
    cases hmoves with
    | kept hp hc => exact .inl ⟨hp, hc⟩
    | served n hp hi hh => exact .inr ⟨n, hh, hi, hp⟩
    | reset hp hc =>
      rcases hc with ⟨a, i, hc⟩ | hc | hc
      · exact absurd hc (hpower a i)
      · exact absurd hc hpin
      · exact absurd hc hservice

end Sys2Proof.Machine
end

section
/-! PROOF. The management port: its bus transactions, and which of its requests each part state refuses. -/

namespace Sys2Proof.Machine

/-! ## Transactions on the management bus (R163 to R166) -/

/-- R163: the part's own address, and the reset pin released. -/
theorem acknowledges_iff (s : State) (address : BitVec 7) :
    s.acknowledges address = true ↔ s.resetPin = false ∧ address.toNat = 0x4C + s.addressStraps.val := by
  simp [State.acknowledges, Config.i2cBase]

section Acknowledged

variable {s : State} {address : BitVec 7} (h : s.acknowledges address = true)

include h

/-- The bytes of a write are delivered to MPORT as one frame (R164). -/
theorem exec_managementWrite_acknowledged (header : Byte) (rest : List Byte) :
    exec (.managementWrite { address := address, cut := false } (header :: rest)) s =
      .next { s with
        mport := s.mport.deliver header (checkMgmtFrame (header :: rest)), mgmtAck := true, mgmtData := [] } :=
  congrArg Host.Outcome.next (if_pos h)

theorem exec_managementWrite_acknowledged_empty :
    exec (.managementWrite { address := address, cut := false } []) s =
      .next { s with mgmtAck := true, mgmtData := [] } :=
  congrArg Host.Outcome.next (if_pos h)

/-- A read drives the port's bytes and then filler (R165). -/
theorem exec_managementRead_acknowledged (clocked : Nat) :
    exec (.managementRead { address := address, cut := false } clocked) s =
      .next { s with
        mport := s.mport.afterFetch clocked, mgmtAck := true, mgmtData := driven clocked s.mport.fetchBytes } :=
  congrArg Host.Outcome.next (if_pos h)

end Acknowledged

section NotAcknowledged

variable {s : State} {address : BitVec 7} (h : ¬ s.acknowledges address = true)

include h

theorem exec_managementWrite_not_acknowledged (bytes : List Byte) :
    exec (.managementWrite { address := address, cut := false } bytes) s =
      .next { s with mgmtAck := false, mgmtData := [] } :=
  congrArg Host.Outcome.next (if_neg h)

theorem exec_managementRead_not_acknowledged (clocked : Nat) :
    exec (.managementRead { address := address, cut := false } clocked) s =
      .next { s with mgmtAck := false, mgmtData := [] } :=
  congrArg Host.Outcome.next (if_neg h)

end NotAcknowledged

theorem exec_managementWrite_cut (address : BitVec 7) (bytes : List Byte) (s : State) :
    exec (.managementWrite { address := address, cut := true } bytes) s = .next s := rfl

theorem exec_managementRead_cut (address : BitVec 7) (clocked : Nat) (s : State) :
    exec (.managementRead { address := address, cut := true } clocked) s = .next s := rfl

/-- Settles O8: an acknowledged transaction is R152's and R165's tables at MPORT, every other leaves the port. -/
theorem managementBusWritesDeliverAndReadsFetch : Obligations.ManagementBusWritesDeliverAndReadsFetch := by
  intro address s own whole
  have hown : s.acknowledges address = true ↔ own := acknowledges_iff s address
  rw [← hown]
  exact ⟨fun hack =>
      ⟨fun header rest => ⟨_, deliver_deliversTo _ _ _, exec_managementWrite_acknowledged hack header rest⟩,
        exec_managementWrite_acknowledged_empty hack,
        fun clocked => ⟨_, _, afterFetch_fetchesTo _ _, exec_managementRead_acknowledged hack clocked⟩⟩,
    fun hnack => ⟨exec_managementWrite_not_acknowledged hnack, exec_managementRead_not_acknowledged hnack⟩,
    fun bytes => exec_managementWrite_cut address bytes s, fun clocked => exec_managementRead_cut address clocked s⟩

/-! ## Availability of management requests (R168) -/

theorem available_service (k : MgmtKind) :
    k.available .service = false ↔
      k ∈ [MgmtKind.defineResource, .setProfile, .setQuota, .setDivider, .leaveMaintenance] := by
  cases k <;> decide

theorem available_maintenance (k : MgmtKind) : k.available .maintenance = false ↔ k = .enterMaintenance := by
  cases k <;> decide

theorem available_safe (k : MgmtKind) :
    k.available .safe = false ↔
      k ∈ [MgmtKind.defineResource, .setProfile, .setQuota, .setDivider, .bar, .unbar, .forceRevoke, .lift,
        .takeOffline, .bringOnline, .enterMaintenance, .leaveMaintenance, .enterSafe] := by
  cases k <;> decide

theorem available_serviceReset {p : PartState} (h : p ≠ .starting) : MgmtKind.serviceReset.available p = true :=
  bne_iff_ne.mpr h

/-- A request of any kind that is not available answers the part state's status alone. -/
theorem exec_mgmt_refused {q : Request MgmtKind} {s : State} (hh : s.handed = some q.kind.command)
    (hq : s.mport.standing = .queued q) (ha : q.kind.available s.part = false) :
    exec q.kind.command s = .next (s.afterMgmt q s.engine (.bare (unavailableStatus s.part))) := by
  have hkind : q.kind ≠ .serviceReset := fun hk => by
    rw [hk, available_serviceReset (part_of_handed hh)] at ha
    exact absurd ha nofun
  obtain ⟨rule, -, hexec⟩ := exec_mgmt_takes_aside hkind s
  rw [hexec, takeMgmt_handed hh hq, answerMgmt_refused ha]

/-- Settles O11: the kinds that each part state makes unavailable, each refused with that state's status. -/
theorem availabilityOfManagementRequests : Obligations.AvailabilityOfManagementRequests := by
  intro q s hh hq service maintenance safe
  have refused : ∀ {p}, s.part = p → q.kind.available p = false →
      exec q.kind.command s = .next (s.afterMgmt q s.engine (.bare (unavailableStatus p))) := by
    rintro p rfl ha
    exact exec_mgmt_refused hh hq ha
  refine ⟨fun ⟨hp, hk⟩ => refused hp ((available_service _).mpr hk),
    fun ⟨hp, hk⟩ => refused hp ((available_maintenance _).mpr hk),
    fun ⟨hp, hk⟩ => refused hp ((available_safe _).mpr hk), fun hservice hmaintenance hsafe => ⟨hh, hq, ?_⟩⟩
  rw [← Bool.not_eq_false]
  intro ha
  cases hp : s.part <;> rw [hp] at ha
  case starting => exact part_of_handed hh hp
  case service => exact hservice ⟨hp, (available_service _).mp ha⟩
  case maintenance => exact hmaintenance ⟨hp, (available_maintenance _).mp ha⟩
  case safe => exact hsafe ⟨hp, (available_safe _).mp ha⟩

end Sys2Proof.Machine
end

section
/-! PROOF. The part states: ENTER SAFE, SERVICE RESET and its restart, PART STATUS and QUERY SESSION. -/

namespace Sys2Proof.Machine

/-! ## SAFE (R170) -/

/-- Settles O39: ENTER SAFE's own rule, the emptied engine and the two counts in the terms of the statement. -/
theorem enterSafeGivesUpEveryClaim : Obligations.EnterSafeGivesUpEveryClaim := by
  intro q s hkind h
  have hexec : exec .enterSafe s = .next (s.takeMgmt q.kind enterSafeRule) := by rw [hkind]; rfl
  rw [hexec, takeMgmt_admitted h]
  simp only [enterSafeRule, emptied_eq, usedSlots_eq, standingSessions_eq]
  rfl

/-! ## SERVICE RESET (R166, R167, R171, R185) -/

theorem staging_setBank (x : ImageStore) (i : BankId) (b : Bank) : (x.setBank i b).staging = x.staging := by
  cases i <;> rfl

theorem cut_staging (x : ImageStore) (index : Nat) : (x.cut index).staging = x.staging := by
  unfold ImageStore.cut
  cases hb : x.burning with
  | none => rfl
  | some i => exact staging_setBank _ _ _

/-- BURN_SPOILT is set exactly where a burn is in flight, and stays set where it was (R172). -/
theorem markCut_eq (s : State) : s.markCut =
    s.setFaults { s.engine.faults with burnSpoilt := s.engine.faults.burnSpoilt || s.images.burning.isSome } := by
  unfold State.markCut
  split
  · rename_i hb
    rw [hb, Bool.or_true]
  · rename_i hb
    rw [Bool.eq_false_iff.mpr hb, Bool.or_false]
    rfl

/-- What the restart of SERVICE RESET makes of the part (R166, R171). -/
theorem restart_eq (s : State) : s.restart =
    { s with
      engine := { s.engine.cleared with
        faults := { s.engine.faults with burnSpoilt := s.engine.faults.burnSpoilt || s.images.burning.isSome } }
      heartbeats := Table.fill 6 .cleared
      untaken := 0, pointer := 0, running := false, elapsed := 0
      ports := Table.fill 6 .cleared
      mport := { s.mport with overlap := false, priorDiscarded := false }
      part := .starting, restarting := true, load := none
      images := s.images.cut s.freeIndex
      freeIndex := if s.images.burning.isSome then s.freeIndex + 1 else s.freeIndex } := by
  simp only [State.restart, markCut_eq, cutBurn_eq, emptied_eq]
  rfl

/-- Settles O40: the answer is placed, then the part restarts, its burning bank cut as `ImageStore.cut` says. -/
theorem serviceResetRestartsWithoutALoad : Obligations.ServiceResetRestartsWithoutALoad := by
  refine ⟨fun q s hkind ⟨hh, _, _⟩ => ?_, fun s hp hr => congrArg Host.Outcome.next (if_pos ⟨hp, hr⟩)⟩
  rw [hkind] at hh
  refine ⟨s.images.cut s.freeIndex, if s.images.burning.isSome then s.freeIndex + 1 else s.freeIndex, ?_,
    cut_staging _ _, cut_source _ _, cut_burning _ _, bank_cut s.images s.freeIndex⟩
  rw [exec_serviceReset_handed hh, restart_eq]
  rfl

/-! ## PART STATUS (R173, R191, R192) -/

/-- The clear set that a set code below 32 carries (R191). -/
def clearSet (code : Nat) : ClearSet :=
  { tickSlip := code.testBit 0, imageBad := code.testBit 1, imageSkipped := code.testBit 2,
    burnSpoilt := code.testBit 3, fenceSpent := code.testBit 4 }

theorem clearSetOf_below {code : Nat} (h : code < 32) : clearSetOf code = some (clearSet code) := if_pos h

theorem clearSetOf_above {code : Nat} (h : 32 ≤ code) : clearSetOf code = none := if_neg (Nat.not_lt.mpr h)

/-- The fault summary of R192: the flags as bits 0 to 4, and the resource that FENCE_SPENT carries. -/
theorem faults_bytes_eq (f : Faults) :
    f.bytes =
      [byte ((if f.tickSlip then 1 else 0) + (if f.imageBad then 2 else 0) + (if f.imageSkipped then 4 else 0) +
          (if f.burnSpoilt then 8 else 0) + (if f.fenceSpent.isSome then 16 else 0)),
        byte ((f.fenceSpent.map fun r => r.val).getD 0)] := by
  have htick : f.tickSlip.toNat = if f.tickSlip then 1 else 0 := (Nat.one_mul _).symm.trans (mul_toNat 1 _)
  simp only [Faults.bytes, bits5, mul_toNat, htick]

theorem partStatusRule_below {args : List Byte} (h : argByte args 0 < 32) (s : State) :
    partStatusRule args s =
      (s.setFaults (s.engine.faults.cleared (clearSet (argByte args 0))),
        { status := .ok
          content := [s.part.code] ++ s.engine.faults.bytes ++ bytes2 s.divider ++
            [yesNo s.images.burning.isSome, byte s.engine.usedSlots] }) := by
  simp only [partStatusRule, clearSetOf_below h]

theorem partStatusRule_above {args : List Byte} (h : 32 ≤ argByte args 0) (s : State) :
    partStatusRule args s = (s, .bare .badArg) := by
  simp only [partStatusRule, clearSetOf_above h]

/-- Settles O41: PART STATUS by its set code, QUERY SESSION by its client number. -/
theorem partStatusAndQuerySessionReport : Obligations.PartStatusAndQuerySessionReport := by
  intro q s h v f one
  refine ⟨fun hkind => ?_, fun hkind => ?_⟩
  · have hexec : exec .partStatus s = .next (s.takeMgmt q.kind partStatusRule) := by rw [hkind]; rfl
    rw [hexec]
    refine ⟨fun habove => congrArg _ (takeMgmt_of_unchanged h (partStatusRule_above habove s)),
      fun hbelow => congrArg _ (takeMgmt_of_setEngine h ?_)⟩
    rw [partStatusRule_below hbelow, faults_bytes_eq, usedSlots_eq]
    rfl
  · have hexec : exec .querySession s = .next (s.takeMgmt q.kind querySessionRule) := by rw [hkind]; rfl
    rw [hexec]
    exact ⟨fun habove => congrArg _ (takeMgmt_of_unchanged h (withClient_above habove _)),
      fun n hn => congrArg _ (takeMgmt_of_unchanged h (withClient_of_val hn _))⟩

end Sys2Proof.Machine
end

section
/-! PROOF. The image store's requests and the end of a burn: CAPTURE, WRITE STAGING, READ STAGING, BURN, BANK STATUS and
BURN_END. -/

namespace Sys2Proof.Machine

/-! ## The staging buffer (R181, R182) -/

/-- A management request whose rule changes the image store alone. -/
theorem takeMgmt_of_setImages {s : State} {q : Request MgmtKind} {x : ImageStore} {a : Answer} (h : s.admitsMgmt q)
    {rule : List Byte → State → State × Answer} (hr : rule q.args s = (s.setImages x, a)) :
    s.takeMgmt q.kind rule = State.afterMgmt { s with images := x } q s.engine a := by
  rw [takeMgmt_admitted h, hr]
  rfl

section Staging

variable {q : Request MgmtKind} {s : State} (h : s.admitsMgmt q)

include h

theorem exec_capture (hkind : q.kind = .capture) :
    (s.images.burning ≠ none → exec .capture s = .next (s.afterMgmt q s.engine (.bare .busy))) ∧
    (s.images.burning = none → exec .capture s = .next (State.afterMgmt
      { s with images := { s.images with staging := imageOf s.engine s.divider } } q s.engine (.bare .ok))) := by
  have hexec : exec .capture s = .next (s.takeMgmt q.kind captureRule) := by rw [hkind]; rfl
  rw [hexec]
  exact ⟨fun hb => congrArg _ (takeMgmt_of_unchanged h (if_pos (Option.isSome_iff_ne_none.mpr hb))),
    fun hb => congrArg _ (takeMgmt_of_setImages h (if_neg (by simp [hb])))⟩

theorem exec_writeStaging (hkind : q.kind = .writeStaging) :
    let offset := argWord q.args 0
    let data := q.args.drop 2
    let bad := 512 ≤ offset ∨ 512 < offset + data.length
    (bad → exec .writeStaging s = .next (s.afterMgmt q s.engine (.bare .badArg))) ∧
    (¬ bad → s.images.burning ≠ none → exec .writeStaging s = .next (s.afterMgmt q s.engine (.bare .busy))) ∧
    (¬ bad → s.images.burning = none → exec .writeStaging s = .next (State.afterMgmt
      { s with images := { s.images with staging := s.images.staging.writeAll offset data } } q s.engine
        (.bare .ok))) := by
  have hexec : exec .writeStaging s = .next (s.takeMgmt q.kind writeStagingRule) := by rw [hkind]; rfl
  rw [hexec]
  exact ⟨fun hbad => congrArg _ (takeMgmt_of_unchanged h (if_pos hbad)),
    fun hgood hb => congrArg _ (takeMgmt_of_unchanged h
      ((if_neg hgood).trans (if_pos (Option.isSome_iff_ne_none.mpr hb)))),
    fun hgood hb => congrArg _ (takeMgmt_of_setImages h ((if_neg hgood).trans (if_neg (by simp [hb]))))⟩

theorem exec_readStaging (hkind : q.kind = .readStaging) :
    let offset := argWord q.args 0
    let count := argByte q.args 2
    let bad := count = 0 ∨ 24 < count ∨ 512 < offset + count
    (bad → exec .readStaging s = .next (s.afterMgmt q s.engine (.bare .badArg))) ∧
    (¬ bad → exec .readStaging s = .next (s.afterMgmt q s.engine
      { status := .ok, content := (List.range count).map fun i => s.images.staging.read (offset + i) })) := by
  have hexec : exec .readStaging s = .next (s.takeMgmt q.kind readStagingRule) := by rw [hkind]; rfl
  rw [hexec]
  exact ⟨fun hbad => congrArg _ (takeMgmt_of_unchanged h (if_pos hbad)),
    fun hgood => congrArg _ (takeMgmt_of_unchanged h (if_neg hgood))⟩

end Staging

/-- Settles O45: each request by its own rule; a write inside the buffer keeps its form and every other byte. -/
theorem stagingIsCapturedWrittenAndRead : Obligations.StagingIsCapturedWrittenAndRead := by
  intro q s h hwf offset
  refine ⟨exec_capture h, fun hkind => ?_, exec_readStaging h⟩
  obtain ⟨hbad, hbusy, hgood⟩ := exec_writeStaging h hkind
  refine ⟨hbad, hbusy, fun hfit hb => ⟨_, hgood hfit hb, ?_⟩⟩
  have hin : offset + (q.args.drop 2).length ≤ Config.imageBytes := Nat.not_lt.mp fun hover => hfit (.inr hover)
  exact ⟨Memory.wf_writeAll _ hwf hin, fun a => Memory.read_writeAll offset a _ hwf hin⟩

/-! ## The check word (R180) -/

/-- One bit of the CRC-16, the most significant bit read as bit 15. -/
theorem crc16Bit_eq (c : BitVec 16) : crc16Bit c = if c.getLsbD 15 then (c <<< 1) ^^^ 0x1021 else c <<< 1 := rfl

/-- A byte in the upper half of a word. -/
theorem shiftLeft_setWidth_eq (b : Byte) :
    (b.setWidth 16 : BitVec 16) <<< (8 : Nat) = BitVec.ofNat 16 (256 * b.toNat) := by
  apply BitVec.eq_of_toNat_eq
  have := b.isLt
  simp only [BitVec.toNat_shiftLeft, BitVec.toNat_setWidth, BitVec.toNat_ofNat, Nat.shiftLeft_eq]
  omega

/-- A byte more is taken in by eight bits of the CRC-16. -/
theorem crc16_append (l : List Byte) (b : Byte) :
    crc16 (l ++ [b]) = crc16Bit^[8] (crc16 l ^^^ BitVec.ofNat 16 (256 * b.toNat)) := by
  rw [← shiftLeft_setWidth_eq, crc16, List.foldl_append]
  rfl

theorem checkWord_eq (m : Memory) : m.checkWord = (crc16 ((List.range 510).map fun a => m.read a)).toNat := by
  simp only [Memory.checkWord, Memory.readAll, imageCheck, Nat.zero_add]

theorem tagPresent_iff {m : Memory} : m.tagPresent = true ↔ m.read 0 = 0x4D ∧ m.read 1 = 0x57 := by
  simp only [Memory.tagPresent, Config.formatTag, Bool.and_eq_true, beq_iff_eq]

/-! ## BURN and BANK STATUS (R183, R186) -/

theorem bankOf_none {n : Nat} (h : 2 ≤ n) : bankOf n = none := by
  obtain ⟨m, rfl⟩ := Nat.exists_eq_add_of_le' h
  rfl

/-- BURN's own rule for a bank code that is assigned (R183). -/
theorem burnRule_of_bank {args : List Byte} {i : BankId} (hi : bankOf (argByte args 0) = some i) (s : State) :
    burnRule args s =
      if ¬ s.images.staging.tagPresent then (s, .bare .badArg)
      else if (s.images.bank i).state ≠ .blank then (s, .bare .bankUsed)
      else if s.images.burning.isSome then (s, .bare .busy)
      else (s.setImages (s.images.startBurn i), .bare .started) := by
  simp only [burnRule, hi]

/-- A bank that gets its started mark without its finished mark is SPOILT (R179). -/
theorem derived_started {b : Bank} (hf : b.finished = false) :
    { b with started := true }.derived = { b with started := true, state := .spoilt } :=
  congrArg (fun st => { b with started := true, state := st })
    (derive_of_unfinished (b := { b with started := true }) rfl hf)

/-- A burn of a bank without its finished mark leaves it SPOILT (R183). -/
theorem startBurn_eq {x : ImageStore} {i : BankId} (hf : (x.bank i).finished = false) :
    x.startBurn i =
      ({ x with staging := x.staging.writeAll imageCheck (bytes2 x.staging.checkWord), burning := some i }).setBank i
        { x.bank i with started := true, state := .spoilt } := by
  rw [ImageStore.startBurn, derived_started hf]

/-- The staging buffer with its check word: the last two bytes, and no others (R183). -/
theorem withCheckWord_reads {m : Memory} (hwf : m.wf = true) (word : Nat) :
    let y := m.writeAll imageCheck (bytes2 word)
    y.wf = true ∧ (∀ a, a ≠ 510 → a ≠ 511 → y.read a = m.read a) ∧ y.read 510 = byte (word / 256) ∧
      y.read 511 = byte word := by
  have hin : imageCheck + (bytes2 word).length ≤ Config.imageBytes := Nat.le_refl 512
  have hread := fun a => Memory.read_writeAll imageCheck a (bytes2 word) hwf hin
  refine ⟨Memory.wf_writeAll _ hwf hin, fun a h0 h1 => (hread a).trans (if_neg ?_), hread 510, hread 511⟩
  simp only [imageCheck, bytes2, List.length_cons, List.length_nil]
  omega

/-- A bank held BLANK under the burn law has no finished mark (R179). -/
theorem unfinished_of_blank {s : State} {i : BankId} (hlaw : s.bankLaw i) (hblank : (s.images.bank i).state = .blank) :
    (s.images.bank i).finished = false := by
  obtain ⟨-, hmarks, hstarted⟩ := hlaw
  exact Bool.eq_false_iff.mpr fun hf => hstarted (hmarks hf) hblank

theorem bankLaw_of_burnLaw {s : State} (h : s.burnLaw) (i : BankId) : s.bankLaw i := by
  cases i
  · exact h.1
  · exact h.2

section Burn

variable {q : Request MgmtKind} {s : State} (h : s.admitsMgmt q)

include h

theorem exec_burn_noBank (hkind : q.kind = .burn) (hcode : 2 ≤ argByte q.args 0) :
    exec .burn s = .next (s.afterMgmt q s.engine (.bare .badArg)) := by
  have hexec : exec .burn s = .next (s.takeMgmt q.kind burnRule) := by rw [hkind]; rfl
  rw [hexec]
  refine congrArg _ (takeMgmt_of_unchanged h ?_)
  simp only [burnRule, bankOf_none hcode]

theorem exec_burn (hkind : q.kind = .burn) {i : BankId} (hi : bankOf (argByte q.args 0) = some i) :
    let x := s.images
    let tag := x.staging.tagPresent = true
    (¬ tag → exec .burn s = .next (s.afterMgmt q s.engine (.bare .badArg))) ∧
    (tag → (x.bank i).state ≠ .blank → exec .burn s = .next (s.afterMgmt q s.engine (.bare .bankUsed))) ∧
    (tag → (x.bank i).state = .blank → x.burning ≠ none →
      exec .burn s = .next (s.afterMgmt q s.engine (.bare .busy))) ∧
    (tag → (x.bank i).state = .blank → x.burning = none →
      exec .burn s = .next (State.afterMgmt { s with images := x.startBurn i } q s.engine (.bare .started))) := by
  have hexec : exec .burn s = .next (s.takeMgmt q.kind burnRule) := by rw [hkind]; rfl
  have hrule := burnRule_of_bank hi s
  rw [hexec]
  refine ⟨fun ht => congrArg _ (takeMgmt_of_unchanged h ?_), fun ht hused => congrArg _ (takeMgmt_of_unchanged h ?_),
    fun ht hblank hb => congrArg _ (takeMgmt_of_unchanged h ?_),
    fun ht hblank hb => congrArg _ (takeMgmt_of_setImages h ?_)⟩
  · rw [hrule, if_pos ht]
  · rw [hrule, if_neg (not_not.mpr ht), if_pos hused]
  · rw [hrule, if_neg (not_not.mpr ht), if_neg (not_not.mpr hblank), if_pos (Option.isSome_iff_ne_none.mpr hb)]
  · rw [hrule, if_neg (not_not.mpr ht), if_neg (not_not.mpr hblank), hb]
    rfl

theorem exec_bankStatus (hkind : q.kind = .bankStatus) :
    exec .bankStatus s = .next (s.afterMgmt q s.engine
      { status := .ok
        content := [s.images.reported .a, s.images.reported .b, yesNo s.images.burning.isSome,
          yesNo s.images.staging.tagPresent, s.images.source.code] }) := by
  have hexec : exec .bankStatus s = .next (s.takeMgmt q.kind bankStatusRule) := by rw [hkind]; rfl
  rw [hexec]
  exact congrArg _ (takeMgmt_of_unchanged h rfl)

end Burn

/-- Settles O46: BURN by R183's table, where a BLANK bank has no finished mark under the burn law, and BANK STATUS. -/
theorem burnStartsOnABlankBank : Obligations.BurnStartsOnABlankBank := by
  refine ⟨⟨rfl, crc16_append⟩, ⟨rfl, rfl, rfl⟩, ⟨rfl, rfl, rfl, rfl, rfl⟩, fun q s h hlaw hwf => ?_⟩
  intro x tag
  refine ⟨fun hkind => ⟨exec_burn_noBank h hkind, fun i hi => ?_⟩, fun hkind => ?_⟩
  · have hbank : bankOf (argByte q.args 0) = some i := by rw [hi]; cases i <;> rfl
    obtain ⟨hbad, hused, hbusy, hstarted⟩ := exec_burn h hkind hbank
    simp only [tagPresent_iff] at hbad hused hbusy hstarted
    refine ⟨hbad, hused, hbusy, fun ht hblank hb => ?_⟩
    obtain ⟨hform, hothers, hhigh, hlow⟩ := withCheckWord_reads hwf x.staging.checkWord
    rw [← checkWord_eq]
    refine ⟨_, hform, hothers, ⟨hhigh, hlow⟩, ?_⟩
    rw [← startBurn_eq (unfinished_of_blank (bankLaw_of_burnLaw hlaw i) hblank)]
    exact hstarted ht hblank hb
  · have htag : yesNo s.images.staging.tagPresent = if tag then 1 else 0 := by
      simp only [yesNo, tagPresent_iff, tag, x]
    rw [exec_bankStatus h hkind, htag]
    rfl

/-! ## The end of a burn (R184) -/

theorem address_of_find {misread : List (Fin 512 × Byte)} {a : Nat} {c : Fin 512 × Byte}
    (h : (misread.find? fun d => d.1.val == a) = some c) : c.1.val = a :=
  eq_of_beq (List.find?_some (p := fun d : Fin 512 × Byte => d.1.val == a) h)

/-- Where no address is listed twice, the search for a listed cell's address finds that cell. -/
theorem find_listed {misread : List (Fin 512 × Byte)} (hnodup : (misread.map Prod.fst).Nodup) {c : Fin 512 × Byte}
    (hc : c ∈ misread) : (misread.find? fun d => d.1.val == c.1.val) = some c := by
  cases hfind : misread.find? fun d => d.1.val == c.1.val with
  | none => exact absurd (beq_self_eq_true _) (List.find?_eq_none.mp hfind c hc)
  | some d =>
    have hd : d.1 = c.1 := Fin.ext (address_of_find hfind)
    rw [List.inj_on_of_nodup_map hnodup (List.mem_of_find?_eq_some hfind) hc hd]

/-- A read-back whose list names every address at most once reads the listed byte where one is listed, and the staging
byte anywhere else. -/
theorem readBack_reads {staging : Memory} (hwf : staging.wf = true) {misread : List (Fin 512 × Byte)}
    (hnodup : (misread.map Prod.fst).Nodup) :
    (readBack staging misread).wf = true ∧
      ∀ a, (readBack staging misread).read a =
        ((misread.find? fun c => c.1.val == a).map Prod.snd).getD (staging.read a) := by
  induction misread generalizing staging with
  | nil => exact ⟨hwf, fun _ => rfl⟩
  | cons c l ih =>
    obtain ⟨hnew, hrest⟩ := List.nodup_cons.mp hnodup
    obtain ⟨hform, hread⟩ := ih (Memory.wf_write c.2 hwf c.1.isLt) hrest
    refine ⟨hform, fun a => (hread a).trans ?_⟩
    rw [Memory.read_write _ _ _ hwf]
    by_cases ha : c.1.val = a
    · have hnone : (l.find? fun d => d.1.val == a) = none := List.find?_eq_none.mpr fun d hd hda =>
        hnew (List.mem_map.mpr ⟨d, hd, Fin.ext ((eq_of_beq hda).trans ha.symm)⟩)
      rw [if_pos ha, hnone, List.find?_cons_of_pos (p := fun d : Fin 512 × Byte => d.1.val == a) (beq_iff_eq.mpr ha)]
      rfl
    · rw [if_neg ha, List.find?_cons_of_neg (by simpa using ha)]

/-- The bank reads back as the staging buffer exactly where every listed byte is the staging byte. -/
theorem readBack_eq_self_iff {staging : Memory} (hwf : staging.wf = true) {misread : List (Fin 512 × Byte)}
    (hnodup : (misread.map Prod.fst).Nodup) :
    readBack staging misread = staging ↔ ∀ c, c ∈ misread → staging.read c.1.val = c.2 := by
  obtain ⟨hform, hread⟩ := readBack_reads hwf hnodup
  constructor
  · intro heq c hc
    have hlisted := hread c.1.val
    rwa [find_listed hnodup hc, heq] at hlisted
  · intro hagree
    refine Memory.ext hform hwf fun a => (hread a).trans ?_
    cases hfind : misread.find? fun c => c.1.val == a with
    | none => rfl
    | some c => exact address_of_find hfind ▸ (hagree c (List.mem_of_find?_eq_some hfind)).symm

theorem nodup_of_wellFormed {misread : List (Fin 512 × Byte)} (h : (Instr.burnEnd misread).wellFormed = true) :
    (misread.map Prod.fst).Nodup := by
  have hlen : (misread.map Prod.fst).dedup.length = (misread.map Prod.fst).length :=
    (eq_of_beq h).trans (List.length_map _).symm
  exact List.dedup_eq_self.mp ((List.dedup_sublist _).eq_of_length hlen)

/-- A started bank that gets its finished mark and holds an image is WRITTEN (R179). -/
theorem derived_finished {b : Bank} {content : Memory} (hs : b.started = true) (hcheck : content.checkGood = true)
    (htag : content.tagPresent = true) :
    { b with content := content, finished := true }.derived =
      { content := content, started := true, finished := true, state := .written } := by
  simp [Bank.derived, Bank.derive, hs, hcheck, htag]

/-- A started, unfinished bank whose burn ended with a byte that differs keeps its marks (R184). -/
theorem spoilt_eq {b : Bank} (content : Memory) (hs : b.started = true) (hf : b.finished = false) :
    { b with content := content, state := .spoilt } =
      { content := content, started := true, finished := false, state := .spoilt } := by
  rw [← hs, ← hf]

/-- The end of bank `i`'s burn, by whether the bank reads back as the staging buffer (R184). -/
theorem exec_burnEnd {s : State} {i : BankId} (hb : s.images.burning = some i) (misread : List (Fin 512 × Byte)) :
    let x := s.images
    let content := readBack x.staging misread
    (content = x.staging → exec (.burnEnd misread) s = .next { s with
      images := ({ x with burning := none }).setBank i
        { x.bank i with content := x.staging, finished := true }.derived }) ∧
    (content ≠ x.staging → exec (.burnEnd misread) s = .next { s with
      images := ({ x with burning := none }).setBank i { x.bank i with content := content, state := .spoilt }
      engine := { s.engine with faults := { s.engine.faults with burnSpoilt := true } } }) := by
  simp only [exec, execBurnEnd, hb, Bank.burned]
  refine ⟨fun hsame => ?_, fun hdiffer => ?_⟩
  · rw [if_pos hsame, if_pos hsame]
    cases i <;> rfl
  · rw [if_neg hdiffer, if_neg hdiffer]
    cases i <;> rfl

/-- Settles O47: the burn law gives the bank's marks, the format tag and the check word while its burn is in flight. -/
theorem burnEndsWrittenOrSpoilt : Obligations.BurnEndsWrittenOrSpoilt := by
  intro s i misread hb hlaw hwf hform x
  have hnodup := nodup_of_wellFormed hform
  have hiff := readBack_eq_self_iff hwf hnodup
  obtain ⟨hmatch, hdiffer⟩ := exec_burnEnd hb misread
  obtain ⟨hburning, -, -⟩ := bankLaw_of_burnLaw hlaw i
  obtain ⟨hstarted, hunfinished, -, htag, hcheck, -⟩ := hburning hb
  refine ⟨fun hagree => ?_, fun ⟨c, hc, hne⟩ => ?_⟩
  · rw [hmatch (hiff.mpr hagree), derived_finished hstarted hcheck htag]
  · obtain ⟨hwf', hreads⟩ := readBack_reads hwf hnodup
    refine ⟨_, hwf', hreads, ?_⟩
    rw [hdiffer fun heq => hne (hiff.mp heq c hc), spoilt_eq _ hstarted hunfinished]

end Sys2Proof.Machine
end

section
/-! PROOF. The image of a valid configuration: where its bytes stand, and what a load reads back from them. -/

namespace Sys2Proof.Machine

/-! ## Bytes of a list built from sections -/

/-- A byte of a section of a list, by the bytes before the section and those up to its end. -/
theorem getD_section {l pre mid : List Byte} {i : Nat} (hsplit : pre ++ mid <+: l) (hi : i < mid.length) :
    l.getD (pre.length + i) 0 = mid.getD i 0 := by
  obtain ⟨post, rfl⟩ := hsplit
  rw [List.append_assoc, List.getD_append_right _ _ _ _ (Nat.le_add_right _ _), Nat.add_sub_cancel_left,
    List.getD_append _ _ _ _ hi]

theorem length_flatMap_blocks {α : Type} {w : Nat} {f : α → List Byte} (hw : ∀ x, (f x).length = w)
    (l : List α) : (l.flatMap f).length = w * l.length := by
  rw [List.length_flatMap, funext hw, List.map_const', List.sum_replicate, smul_eq_mul, Nat.mul_comm]

/-- A byte of the `i`-th of a run of blocks of one width. -/
theorem getD_flatMap_blocks {α : Type} {w : Nat} {f : α → List Byte} (hw : ∀ x, (f x).length = w) (l : List α)
    {i j : Nat} (hi : i < l.length) (hj : j < w) : (l.flatMap f).getD (w * i + j) 0 = (f l[i]).getD j 0 := by
  induction l generalizing i with
  | nil => exact absurd hi (Nat.not_lt_zero i)
  | cons x l ih =>
    rw [List.flatMap_cons]
    cases i with
    | zero =>
      rw [Nat.mul_zero, Nat.zero_add, List.getD_append _ _ _ _ ((hw x).symm ▸ hj)]
      rfl
    | succ i =>
      have hskip : w * (i + 1) + j = (f x).length + (w * i + j) := by rw [hw x, Nat.mul_succ]; omega
      rw [hskip, List.getD_append_right _ _ _ _ (Nat.le_add_right _ _), Nat.add_sub_cancel_left]
      exact ih (Nat.lt_of_succ_lt_succ hi)

/-! ## The sections of an image (12.5) -/

/-- The definitions' section of an image: six bytes and two unused ones for each resource. -/
def definitionSection (e : Engine) : List Byte := (List.finRange 32).flatMap fun r => (e.defn r).bytes ++ [0, 0]

/-- The profiles' section of an image. -/
def profileSection (e : Engine) : List Byte := (List.finRange 4).flatMap fun p => (Table.get e.profiles p).bytes

/-- The quotas' section of an image. -/
def quotaSection (e : Engine) : List Byte := (List.finRange 6).map fun n => byte (e.session n).quota

theorem configBytes_eq (e : Engine) (divider : Nat) :
    configBytes e divider =
      [0x4D, 0x57] ++ definitionSection e ++ profileSection e ++ quotaSection e ++ bytes2 divider ++
        List.replicate 180 0 := rfl

theorem length_definitionSection (e : Engine) : (definitionSection e).length = 256 :=
  length_flatMap_blocks (w := 8) (fun _ => rfl) _

theorem length_profileSection (e : Engine) : (profileSection e).length = 64 :=
  length_flatMap_blocks (w := 16) (fun _ => rfl) _

theorem length_quotaSection (e : Engine) : (quotaSection e).length = 6 := by
  rw [quotaSection, List.length_map, List.length_finRange]

theorem length_configBytes (e : Engine) (divider : Nat) : (configBytes e divider).length = 510 := by
  simp only [configBytes_eq, List.length_append, length_definitionSection, length_profileSection, length_quotaSection,
    List.length_replicate]
  rfl

section Image

variable (e : Engine) (divider : Nat)

/-- All 512 bytes of an image: the configuration and its check word. -/
def wholeImage : List Byte := configBytes e divider ++ bytes2 (crc16 (configBytes e divider)).toNat

theorem length_wholeImage : (wholeImage e divider).length = 512 := by
  rw [wholeImage, List.length_append, length_configBytes]
  rfl

theorem wholeImage_fits : 0 + (wholeImage e divider).length ≤ Config.imageBytes := by
  rw [length_wholeImage]
  exact Nat.le_refl 512

theorem imageOf_eq : imageOf e divider = Memory.ofBytes 0 (wholeImage e divider) := rfl

theorem wf_imageOf : (imageOf e divider).wf = true := Memory.wf_ofBytes 0 _ (wholeImage_fits e divider)

theorem read_imageOf {a : Nat} (ha : a < 512) : (imageOf e divider).read a = (wholeImage e divider).getD a 0 := by
  rw [imageOf_eq, Memory.read_ofBytes 0 a _ (wholeImage_fits e divider), length_wholeImage, if_pos (by omega),
    Nat.sub_zero]

/-- The first 510 bytes of an image are the configuration (R182). -/
theorem read_imageOf_config {a : Nat} (ha : a < 510) :
    (imageOf e divider).read a = (configBytes e divider).getD a 0 := by
  rw [read_imageOf e divider (by omega), wholeImage, List.getD_append _ _ _ _ (by rwa [length_configBytes])]

/-- The last two bytes of an image are the check word (R180). -/
theorem read_imageOf_check {i : Nat} (hi : i < 2) :
    (imageOf e divider).read (510 + i) = (bytes2 (crc16 (configBytes e divider)).toNat).getD i 0 := by
  rw [read_imageOf e divider (by omega), wholeImage, List.getD_append_right _ _ _ _ (by rw [length_configBytes]; omega),
    length_configBytes, Nat.add_sub_cancel_left]

theorem readAll_imageOf : (List.range 510).map (fun a => (imageOf e divider).read a) = configBytes e divider := by
  refine List.ext_getElem (by simp [length_configBytes]) fun a ha hb => ?_
  rw [List.getElem_map, List.getElem_range, read_imageOf_config e divider (length_configBytes e divider ▸ hb),
    List.getD_eq_getElem _ _ hb]

/-- A byte of a section of the configuration stands at its offset in the image. -/
theorem read_imageOf_section {pre mid : List Byte} {a i : Nat} (hsplit : pre ++ mid <+: configBytes e divider)
    (ha : pre.length = a) (hi : i < mid.length) : (imageOf e divider).read (a + i) = mid.getD i 0 := by
  have hlen := hsplit.length_le
  rw [List.length_append, length_configBytes] at hlen
  rw [read_imageOf_config e divider (by omega), ← ha, getD_section hsplit hi]

/-- A definition's entry in an image: its six bytes, and two unused bytes 0. -/
theorem read_imageOf_definition (r : ResourceId) {i : Nat} (hi : i < 8) :
    (imageOf e divider).read (2 + 8 * r.val + i) = ((e.defn r).bytes ++ [0, 0]).getD i 0 := by
  have hsplit : [0x4D, 0x57] ++ definitionSection e <+: configBytes e divider :=
    ⟨profileSection e ++ (quotaSection e ++ (bytes2 divider ++ List.replicate 180 0)), by
      simp only [configBytes_eq, List.append_assoc]⟩
  rw [Nat.add_assoc, read_imageOf_section (a := 2) e divider hsplit rfl (by rw [length_definitionSection]; omega),
    definitionSection, getD_flatMap_blocks (w := 8) (fun _ => rfl) _ (by rw [List.length_finRange]; exact r.isLt) hi,
    List.getElem_finRange]
  rfl

/-- A profile's entry in an image: its sixteen bytes. -/
theorem read_imageOf_profile (p : Fin 4) {i : Nat} (hi : i < 16) :
    (imageOf e divider).read (258 + 16 * p.val + i) = (Table.get e.profiles p).bytes.getD i 0 := by
  have hsplit : [0x4D, 0x57] ++ definitionSection e ++ profileSection e <+: configBytes e divider :=
    ⟨quotaSection e ++ (bytes2 divider ++ List.replicate 180 0), by simp only [configBytes_eq, List.append_assoc]⟩
  rw [Nat.add_assoc, read_imageOf_section e divider hsplit
      (by rw [List.length_append, length_definitionSection]; rfl) (by rw [length_profileSection]; omega),
    profileSection, getD_flatMap_blocks (w := 16) (fun _ => rfl) _ (by rw [List.length_finRange]; exact p.isLt) hi,
    List.getElem_finRange]
  rfl

theorem read_imageOf_quota (n : Client) :
    (imageOf e divider).read (322 + n.val) = byte (e.session n).quota := by
  have hsplit : [0x4D, 0x57] ++ definitionSection e ++ profileSection e ++ quotaSection e <+: configBytes e divider :=
    ⟨bytes2 divider ++ List.replicate 180 0, by simp only [configBytes_eq, List.append_assoc]⟩
  have hlen : n.val < (quotaSection e).length := by rw [length_quotaSection]; exact n.isLt
  rw [read_imageOf_section e divider hsplit
      (by simp only [List.length_append, length_definitionSection, length_profileSection]; rfl) hlen,
    List.getD_eq_getElem _ _ hlen]
  simp only [quotaSection, List.getElem_map, List.getElem_finRange]
  rfl

theorem read_imageOf_divider {i : Nat} (hi : i < 2) :
    (imageOf e divider).read (328 + i) = (bytes2 divider).getD i 0 := by
  have hsplit : [0x4D, 0x57] ++ definitionSection e ++ profileSection e ++ quotaSection e ++ bytes2 divider <+:
      configBytes e divider := ⟨List.replicate 180 0, by simp only [configBytes_eq, List.append_assoc]⟩
  exact read_imageOf_section e divider hsplit (by
    simp only [List.length_append, length_definitionSection, length_profileSection, length_quotaSection]; rfl) hi

/-- The bytes between the divider and the check word are 0 (R182). -/
theorem read_imageOf_unused {a : Nat} (hlow : 330 ≤ a) (hhigh : a < 510) : (imageOf e divider).read a = 0 := by
  obtain ⟨i, rfl⟩ := Nat.exists_eq_add_of_le hlow
  have hi : i < (List.replicate 180 (0 : Byte)).length := by rw [List.length_replicate]; omega
  have hsplit : [0x4D, 0x57] ++ definitionSection e ++ profileSection e ++ quotaSection e ++ bytes2 divider ++
      List.replicate 180 0 <+: configBytes e divider := ⟨[], List.append_nil _⟩
  rw [read_imageOf_section e divider hsplit (by
      simp only [List.length_append, length_definitionSection, length_profileSection, length_quotaSection]; rfl) hi,
    List.getD_eq_getElem _ _ hi, List.getElem_replicate]

/-- The format tag stands in the first two bytes of an image (R180). -/
theorem read_imageOf_tag : (imageOf e divider).read 0 = 0x4D ∧ (imageOf e divider).read 1 = 0x57 :=
  ⟨read_imageOf_config e divider (by omega), read_imageOf_config e divider (by omega)⟩

theorem checkWord_imageOf : (imageOf e divider).checkWord = (crc16 (configBytes e divider)).toNat := by
  rw [checkWord_eq, readAll_imageOf]

/-- The check word of an image is good (R180, R182). -/
theorem checkGood_imageOf : (imageOf e divider).checkGood = true := by
  rw [Memory.checkGood, checkWord_imageOf, beq_iff_eq]
  exact congrArg₂ (fun high low => [high, low]) (read_imageOf_check e divider (i := 0) (by omega))
    (read_imageOf_check e divider (i := 1) (by omega))

end Image

/-! ## What the bytes of a valid value read back as (12.5, R26, R86) -/

/-- A number below 65536 read back from its two bytes. -/
theorem word_of_bytes2 {n : Nat} (h : n ≤ 65535) : (byte (n / 256)).toNat * 256 + (byte n).toNat = n := by
  simp only [byte, BitVec.toNat_ofNat]
  omega

/-- The four flags of a definition read back from its first byte. -/
theorem flags_read_back : ∀ b0 b1 b2 b3 : Bool,
    let n := (byte (b0.toNat + 2 * b1.toNat + 4 * b2.toNat + 8 * b3.toNat)).toNat
    n < 16 ∧ n.testBit 0 = b0 ∧ n.testBit 1 = b1 ∧ n.testBit 2 = b2 ∧ n.testBit 3 = b3 := by
  decide

/-- A valid definition is read back from its six bytes (R26). -/
theorem definitionOf_bytes {r : ResourceId} {d : Definition} (hv : d.valid r = true) {f : Nat → Nat}
    (hf : ∀ i, i < 6 → f i = (d.bytes.getD i 0).toNat) : definitionOf r.val f = some d := by
  obtain ⟨defined, kind, safeHigh, capacity, lead, quarantine, queueLimit, profile, startOnline⟩ := d
  simp only [Definition.valid, Bool.and_eq_true, decide_eq_true_eq, Bool.or_eq_true, bne_iff_ne, beq_iff_eq] at hv
  obtain ⟨⟨hcap, hcap', hlead, hquar, hlim, hlim'⟩, hline⟩ := hv
  have hprof := profile.isLt
  obtain ⟨hsmall, h0, h1, h2, h3⟩ := flags_read_back defined (decide (kind = .line)) safeHigh startOnline
  simp (disch := omega) only [definitionOf, hf, Definition.bytes, List.getD_cons_succ, List.getD_cons_zero, byte_toNat,
    h0, h1, h2, h3, decide_eq_true_eq, hprof]
  rw [if_neg (by omega)]
  cases kind with
  | line =>
    obtain ⟨hlow, rfl⟩ := hline.resolve_left (not_not.mpr rfl)
    rw [if_neg (by omega), if_neg (by simp), if_neg (by omega)]
    rfl
  | token =>
    rw [if_neg nofun, if_neg (by omega), if_neg (by omega)]
    rfl

/-- A profile in its ranges is read back from its sixteen bytes (R86). -/
theorem profileOf_bytes {p : Profile} (hr : p.inRange = true) {f : Nat → Nat}
    (hf : ∀ i, i < 16 → f i = (p.bytes.getD i 0).toNat) : profileOf f = p := by
  obtain ⟨t1, t2, t3, h, c0, c1, c2, c3, l0, l1, l2, l3⟩ := p
  simp only [Profile.inRange, List.all_cons, List.all_nil, Bool.and_eq_true, decide_eq_true_eq] at hr
  simp (disch := omega) only [profileOf, hf, Profile.bytes, bytes2, List.cons_append, List.nil_append,
    List.getD_cons_succ, List.getD_cons_zero, word_of_bytes2]
  simp (disch := omega) only [byte_toNat]

/-! ## The load of a captured image (R188, R189) -/

section Loaded

variable {s : State} (h : s.configLaw)

include h

theorem loadedDefinition_imageOf (r : ResourceId) :
    loadedDefinition (some (imageOf s.engine s.divider)) r = s.engine.defn r := by
  obtain ⟨hdefn, -, -, -⟩ := h
  have hbytes : ∀ i, i < 6 → (imageOf s.engine s.divider).definitionByte r i =
      ((s.engine.defn r).bytes.getD i 0).toNat := fun i hi => congrArg BitVec.toNat <|
    (read_imageOf_definition s.engine s.divider r (by omega)).trans (List.getD_append _ _ _ _ hi)
  rw [loadedDefinition, Option.bind_some, definitionOf_bytes (hdefn r) hbytes, Option.getD_some]

theorem loadedProfile_imageOf (p : Fin 4) :
    loadedProfile (some (imageOf s.engine s.divider)) p = Table.get s.engine.profiles p := by
  obtain ⟨-, hprofile, -, -⟩ := h
  have hvalid := hprofile p
  obtain ⟨hrange, -⟩ := Bool.and_eq_true_iff.mp hvalid
  have hback := profileOf_bytes (f := (imageOf s.engine s.divider).profileByte p) hrange fun i hi =>
    congrArg BitVec.toNat (read_imageOf_profile s.engine s.divider p hi)
  rw [loadedProfile, Option.map_some, hback, Option.filter_some_pos hvalid, Option.getD_some]

theorem loadedQuota_imageOf (n : Client) :
    loadedQuota (some (imageOf s.engine s.divider)) n = (s.engine.session n).quota := by
  obtain ⟨-, -, hquota, -⟩ := h
  obtain ⟨hlow, hhigh⟩ := hquota n
  have hback : ((imageOf s.engine s.divider).read (imageQuotas + n.val)).toNat = (s.engine.session n).quota := by
    rw [imageQuotas, read_imageOf_quota, byte_toNat (by omega)]
  simp [loadedQuota, hback, Option.filter_some, hlow, hhigh]

theorem loadedDivider_imageOf : loadedDivider (some (imageOf s.engine s.divider)) = s.divider := by
  obtain ⟨-, -, -, hlow, hhigh⟩ := h
  have hback : ((imageOf s.engine s.divider).read imageDivider).toNat * 256 +
      ((imageOf s.engine s.divider).read (imageDivider + 1)).toNat = s.divider := by
    rw [imageDivider, ← Nat.add_zero 328, read_imageOf_divider _ _ (by omega), read_imageOf_divider _ _ (by omega)]
    exact word_of_bytes2 hhigh
  simp [loadedDivider, hback, Option.filter_some, hlow]

end Loaded

/-- The configuration that the end of a load from `src` leaves is the one its image gives (R188). -/
theorem finishLoad_config (t : State) (src : LoadSource) :
    let u := t.finishLoad src
    let image := t.images.imageOf src
    (∀ r, u.engine.defn r = loadedDefinition image r) ∧
      (∀ p, Table.get u.engine.profiles p = loadedProfile image p) ∧
      (∀ n, (u.engine.session n).quota = loadedQuota image n) ∧ u.divider = loadedDivider image := by
  intro u image
  have hu : u.engine = { t.engine.loaded image with faults := t.engine.faults.afterLoad src } ∧
      u.divider = loadedDivider image := by
    unfold u State.finishLoad
    dsimp only
    split <;> exact ⟨rfl, rfl⟩
  obtain ⟨hengine, hdivider⟩ := hu
  rw [hengine]
  refine ⟨fun r => ?_, fun p => Table.get_tab _ p, fun n => ?_, hdivider⟩
  · exact congrArg Resource.defn (Table.get_tab _ r)
  · exact congrArg Session.quota (Table.get_tab _ n)

/-- The load source that a bank is (R187). -/
def BankId.source : BankId → LoadSource
  | .a => .bankA
  | .b => .bankB

theorem imageOf_source (x : ImageStore) (i : BankId) : x.imageOf i.source = some (x.bank i).content := by
  cases i <;> rfl

/-- The end of a load from a bank takes the configuration from the bank's content. -/
theorem exec_loadEnd_bank {t : State} {i : BankId} (hload : t.load = some i.source) :
    let image := some (t.images.bank i).content
    ∃ u, exec .loadEnd t = .next u ∧ (∀ r, u.engine.defn r = loadedDefinition image r) ∧
      (∀ p, Table.get u.engine.profiles p = loadedProfile image p) ∧
      (∀ n, (u.engine.session n).quota = loadedQuota image n) ∧ u.divider = loadedDivider image := by
  rw [← imageOf_source]
  exact ⟨t.finishLoad i.source, by simp only [exec, execLoadEnd, hload], finishLoad_config t i.source⟩

/-- Settles O48: the image byte by byte, and what a load reads back from the bytes of a valid configuration. -/
theorem capturedImageLoadsBackTheConfiguration : Obligations.CapturedImageLoadsBackTheConfiguration := by
  intro s h m
  have htag := read_imageOf_tag s.engine s.divider
  refine ⟨wf_imageOf _ _, tagPresent_iff.mpr htag, checkGood_imageOf _ _, htag, ?_, fun r => ⟨?_, ?_⟩,
    fun a => read_imageOf_unused _ _, fun t i hload hcontent => ?_⟩
  · rw [← checkWord_eq]
    exact eq_of_beq (checkGood_imageOf s.engine s.divider)
  · exact read_imageOf_definition s.engine s.divider r (by omega)
  · exact read_imageOf_definition s.engine s.divider r (by omega)
  · have hsource : t.load = some i.source := hload.trans (by cases i <;> rfl)
    obtain ⟨u, hexec, hdefn, hprofile, hquota, hdivider⟩ := exec_loadEnd_bank hsource
    rw [hcontent] at hdefn hprofile hquota hdivider
    exact ⟨u, hexec, fun r => (hdefn r).trans (loadedDefinition_imageOf h r),
      fun p => (hprofile p).trans (loadedProfile_imageOf h p), fun n => (hquota n).trans (loadedQuota_imageOf h n),
      hdivider.trans (loadedDivider_imageOf h)⟩

end Sys2Proof.Machine
end

section
/-! PROOF. Requests that answer for one resource: ACQUIRE under a full fence counter, QUERY RESOURCE and CHECK FENCE,
DEFINE RESOURCE and READ DEFINITION, TAKE OFFLINE and BRING ONLINE. -/

namespace Sys2Proof.Machine

/-! ## ACQUIRE under a full fence counter (R33, R34) -/

/-- Settles O22: some slot is FREE, so that the request comes to the grant, and the full counter exhausts the
resource. -/
theorem acquireOnAFullFenceCounterExhaustsTheResource :
    Obligations.AcquireOnAFullFenceCounterExhaustsTheResource := by
  intro n q s a r k hkind h ha hr hacq hnow hk hf
  obtain ⟨j, hj⟩ : ∃ j, s.engine.firstFree = some j :=
    Option.ne_none_iff_exists'.mp fun hfull => (firstFree_none _).mp hfull k hk
  have hrule : acquireRule n q.args (s.serve n) = ((s.serve n).setEngine (s.engine.exhaust r), .bare .fenceSpent) := by
    simp only [acquireRule, ha, withResource_of_val hr.symm, State.serve_engine,
      acquireRefusal_none hacq (.inl hnow), hj,
      (grantable_iff _ _ _).mpr hnow, Engine.fenceFull, hf, decide_true, if_true]
  simp only [exec, execAcquire, ← hkind]
  rw [takeClient_of_setEngine h hrule, exhaust_eq]

/-! ## QUERY RESOURCE and CHECK FENCE (R36, R37, R114, R115) -/

/-- The six bytes of a definition (12.5). -/
theorem definition_bytes_eq (d : Definition) : d.bytes =
    [byte ((if d.defined then 1 else 0) + (if d.kind = .line then 2 else 0) + (if d.safeHigh then 4 else 0) +
        (if d.startOnline then 8 else 0)),
      byte d.capacity, byte d.lead, byte d.quarantine, byte d.queueLimit, byte d.profile.val] := by
  have hdefined : d.defined.toNat = if d.defined then 1 else 0 := by cases d.defined <;> rfl
  simp only [Definition.bytes, mul_toNat, hdefined, decide_eq_true_eq]

/-- QUERY RESOURCE answers the resource record of 12.4, written out byte by byte. -/
theorem queryResourceRule_of_val {args : List Byte} {r : ResourceId} (hr : r.val = argByte args 0) (s : State) :
    queryResourceRule args s = (s, Answer.mk .ok <|
      (s.engine.defn r).bytes ++
      [(s.engine.run r).state.code, byte (s.engine.run r).holders, byte (s.engine.run r).queue.length,
        byte (s.engine.run r).band,
        match (s.engine.run r).state with
        | .quarantine w => byte w
        | _ => 0] ++ bytes4 (s.engine.run r).fence ++
      [byte ((if (s.engine.run r).spent then 1 else 0) +
        2 * if h : r.val < 16 then (Table.get s.lines ⟨r.val, h⟩).code else 3)]) := by
  have hspent : (s.engine.run r).spent.toNat = if (s.engine.run r).spent then 1 else 0 := by
    cases (s.engine.run r).spent <;> rfl
  have hrest : (s.engine.run r).state.quarantineByte =
      match (s.engine.run r).state with
      | .quarantine w => byte w
      | _ => 0 := by cases (s.engine.run r).state <;> rfl
  simp only [queryResourceRule, withResource_of_val hr, resourceBytes, hspent, hrest, lineCode]

/-- What CHECK FENCE answers for a resource and a fence (R114, R115). -/
theorem checkFenceRule_of_val {args : List Byte} {r : ResourceId} (hr : r.val = argByte args 0) (s : State) :
    let carried := ∃ k rec h, s.engine.record k = some rec ∧ rec.resource = r ∧ rec.standing = .held h ∧
      h.fence = argLong args 1
    (carried → checkFenceRule args s = (s, { status := .current, content := bytes4 (s.engine.run r).fence })) ∧
    (¬ carried → checkFenceRule args s = (s, { status := .staleFence, content := bytes4 (s.engine.run r).fence })) := by
  simp only [checkFenceRule, withResource_of_val hr, ← carries_iff]
  exact ⟨fun hc => by rw [if_pos hc], fun hc => by rw [if_neg hc]⟩

/-- Settles O30: the record of 12.4 and the search of R114, brought to both ports. -/
theorem queryResourceAndCheckFenceAnswerForTheResource :
    Obligations.QueryResourceAndCheckFenceAnswerForTheResource := by
  refine ⟨fun x => by cases x <;> rfl, ⟨rfl, rfl, rfl⟩, definition_bytes_eq, fun s number fence => ?_⟩
  refine ⟨?_, ?_⟩
  · rintro n q h rfl
    refine ⟨fun hkind => ⟨fun hn => ?_, fun r hr => ?_⟩, fun hkind hfence => ⟨fun hn => ?_, fun r hr => ?_⟩⟩
    all_goals simp only [exec, execQueryResource, execCheckFence, ← hkind]
    · exact congrArg _ (takeClient_of_unchanged h (withResource_above hn _))
    · exact congrArg _ (takeClient_of_unchanged h (queryResourceRule_of_val hr (s.serve n)))
    · exact congrArg _ (takeClient_of_unchanged h (withResource_above hn _))
    · subst hfence
      obtain ⟨hyes, hno⟩ := checkFenceRule_of_val hr (s.serve n)
      exact ⟨fun hc => congrArg _ (takeClient_of_unchanged h (hyes hc)),
        fun hc => congrArg _ (takeClient_of_unchanged h (hno hc))⟩
  · rintro q h rfl
    refine ⟨fun hkind => ⟨fun hn => ?_, fun r hr => ?_⟩, fun hkind hfence => ⟨fun hn => ?_, fun r hr => ?_⟩⟩
    all_goals simp only [exec, execQueryResource, execCheckFence, ← hkind]
    · exact congrArg _ (takeMgmt_of_unchanged h (withResource_above hn _))
    · exact congrArg _ (takeMgmt_of_unchanged h (queryResourceRule_of_val hr s))
    · exact congrArg _ (takeMgmt_of_unchanged h (withResource_above hn _))
    · subst hfence
      obtain ⟨hyes, hno⟩ := checkFenceRule_of_val hr s
      exact ⟨fun hc => congrArg _ (takeMgmt_of_unchanged h (hyes hc)),
        fun hc => congrArg _ (takeMgmt_of_unchanged h (hno hc))⟩

/-! ## DEFINE RESOURCE and READ DEFINITION (R26, R174, R193) -/

/-- The six bytes `f` are a valid definition of a resource numbered `r` (R26, R193). -/
def validDefinition (r : Nat) (f : Nat → Nat) : Prop :=
  f 0 < 16 ∧ ¬ ((f 0).testBit 1 = true ∧ 16 ≤ r ∧ r < 32) ∧ ((f 0).testBit 1 = true ∨ (1 ≤ f 1 ∧ f 1 ≤ 6)) ∧
    (1 ≤ f 4 ∧ f 4 ≤ 63) ∧ f 5 < 4

/-- The nine fields that six valid bytes carry, a LINE's capacity 1 (R25, R193). -/
structure Definition.CarriedBy (d : Definition) (f : Nat → Nat) : Prop where
  defined : d.defined = (f 0).testBit 0
  kind : d.kind = if (f 0).testBit 1 then .line else .token
  safeHigh : d.safeHigh = (f 0).testBit 2
  startOnline : d.startOnline = (f 0).testBit 3
  capacity : d.capacity = if (f 0).testBit 1 then 1 else f 1
  lead : d.lead = f 2
  quarantine : d.quarantine = f 3
  queueLimit : d.queueLimit = f 4
  profile : d.profile.val = f 5

theorem definitionOf_invalid {r : Nat} {f : Nat → Nat} (h : ¬ validDefinition r f) : definitionOf r f = none := by
  unfold definitionOf
  dsimp only
  split_ifs with h0 hline hcapacity hlimit hprofile
  · rfl
  · rfl
  · rfl
  · rfl
  · refine absurd ⟨by omega, hline, ?_, by omega, hprofile⟩ h
    exact or_iff_not_imp_left.mpr fun hl => by
      by_contra hout
      exact hcapacity ⟨hl, by omega⟩
  · rfl

theorem definitionOf_valid {r : Nat} {f : Nat → Nat} (h : validDefinition r f) :
    ∃ d, definitionOf r f = some d ∧ d.CarriedBy f := by
  obtain ⟨h0, hline, hcapacity, hlimit, hprofile⟩ := h
  unfold definitionOf
  dsimp only
  rw [if_neg (by omega), if_neg hline, if_neg (fun hbad => hcapacity.elim hbad.1 (by omega)), if_neg (by omega),
    dif_pos hprofile]
  exact ⟨_, rfl, rfl, rfl, rfl, rfl, rfl, rfl, rfl, rfl, rfl⟩

section Define

variable {q : Request MgmtKind} {s : State} (h : s.admitsMgmt q)

include h

theorem exec_defineResource_invalid (hkind : q.kind = .defineResource)
    (hv : ¬ validDefinition (argByte q.args 0) fun i => argByte q.args (1 + i)) :
    exec .defineResource s = .next (s.afterMgmt q s.engine (.bare .badArg)) := by
  have hexec : exec .defineResource s = .next (s.takeMgmt q.kind defineResourceRule) := by rw [hkind]; rfl
  rw [hexec]
  exact congrArg _ (takeMgmt_of_unchanged h (by simp only [defineResourceRule, definitionOf_invalid hv]))

/-- DEFINE RESOURCE of a valid definition `d` by R174's table. -/
theorem exec_defineResource_valid (hkind : q.kind = .defineResource) {d : Definition}
    (hd : definitionOf (argByte q.args 0) (fun i => argByte q.args (1 + i)) = some d) :
    (32 ≤ argByte q.args 0 → exec .defineResource s = .next (s.afterMgmt q s.engine (.bare .noResource))) ∧
    ∀ r : ResourceId, r.val = argByte q.args 0 →
      ((s.engine.run r).state ≠ .offline →
        exec .defineResource s = .next (s.afterMgmt q s.engine (.bare .wrongState))) ∧
      ((s.engine.run r).state = .offline →
        exec .defineResource s =
          .next (s.afterMgmt q (s.engine.setDefn r d) { status := .ok, content := d.bytes })) := by
  have hexec : exec .defineResource s = .next (s.takeMgmt q.kind defineResourceRule) := by rw [hkind]; rfl
  rw [hexec]
  refine ⟨fun hn => congrArg _ (takeMgmt_of_unchanged h ?_), fun r hr =>
    ⟨fun ho => congrArg _ (takeMgmt_of_unchanged h ?_), fun ho => congrArg _ (takeMgmt_of_setEngine h ?_)⟩⟩
  · simp only [defineResourceRule, hd, withResource_above hn]
  · simp only [defineResourceRule, hd, withResource_of_val hr, if_neg ho]
  · simp only [defineResourceRule, hd, withResource_of_val hr, if_pos ho]

theorem exec_readDefinition (hkind : q.kind = .readDefinition) :
    (32 ≤ argByte q.args 0 → exec .readDefinition s = .next (s.afterMgmt q s.engine (.bare .noResource))) ∧
    ∀ r : ResourceId, r.val = argByte q.args 0 → exec .readDefinition s =
      .next (s.afterMgmt q s.engine { status := .ok, content := (s.engine.defn r).bytes }) := by
  have hexec : exec .readDefinition s = .next (s.takeMgmt q.kind readDefinitionRule) := by rw [hkind]; rfl
  rw [hexec]
  exact ⟨fun hn => congrArg _ (takeMgmt_of_unchanged h (withResource_above hn _)),
    fun r hr => congrArg _ (takeMgmt_of_unchanged h (withResource_of_val hr _))⟩

end Define

/-- Settles O31: DEFINE RESOURCE by whether its six bytes are valid, then by R174's table. -/
theorem defineResourceStoresAValidDefinition : Obligations.DefineResourceStoresAValidDefinition := by
  intro q s h a line valid
  refine ⟨fun hkind => ?_, exec_readDefinition h⟩
  by_cases hv : valid
  · obtain ⟨d, hd, hdefined, hk, hsafe, honline, hcapacity, hlead, hquarantine, hlimit, hprofile⟩ :=
      definitionOf_valid (f := fun i => argByte q.args (1 + i)) hv
    obtain ⟨habove, hbelow⟩ := exec_defineResource_valid h hkind hd
    exact ⟨fun hn => absurd hv hn, fun _ => habove, fun r hr => ⟨fun _ => (hbelow r hr).1, fun _ ho =>
      ⟨d, hdefined, hk, hsafe, honline, hcapacity, hlead, hquarantine, hlimit, hprofile, (hbelow r hr).2 ho⟩⟩⟩
  · exact ⟨fun _ => exec_defineResource_invalid h hkind hv, fun hn => absurd hn hv,
      fun r _ => ⟨fun hn => absurd hn hv, fun hn => absurd hn hv⟩⟩

/-! ## TAKE OFFLINE and BRING ONLINE (R30, R112, R176, R177) -/

/-- TAKE OFFLINE's own rule with a valid force argument, for a resource (R176). -/
theorem takeOfflineRule_of_val {args : List Byte} {force : Bool} {r : ResourceId}
    (hforce : yesNoOf (argByte args 1) = some force) (hr : r.val = argByte args 0) (s : State) :
    takeOfflineRule args s =
      let e := s.engine
      let counts := [byte (e.heldOn r), byte (e.waitingOn r)]
      if (e.run r).state = .offline then (s, .bare .wrongState)
      else if ¬ force ∧ e.heldOn r + e.waitingOn r ≠ 0 then (s, { status := .inUse, content := counts })
      else (s.setEngine (e.downed r (e.run r).spent), { status := .ok, content := counts }) := by
  simp only [takeOfflineRule, hforce, withResource_of_val hr, takeDown_eq]

/-- A resource that comes online has no waiter for admission to grant (R30, R57). -/
theorem admission_online (e : Engine) (r : ResourceId) :
    (e.setRun r (e.run r).online).admission r = e.setRun r (e.run r).online :=
  admission_free (by rw [Engine.run_setRun_self]; rfl) (by rw [Engine.run_setRun_self]; rfl)

/-- BRING ONLINE's own rule for a resource (R177). -/
theorem bringOnlineRule_of_val {args : List Byte} {r : ResourceId} (hr : r.val = argByte args 0) (s : State) :
    bringOnlineRule args s =
      let e := s.engine
      if (e.run r).state ≠ .offline then (s, .bare .wrongState)
      else if ¬ (e.defn r).defined then (s, .bare .offline)
      else if (e.run r).spent then (s, .bare .fenceSpent)
      else (s.setEngine (e.setRun r (e.run r).online), .bare .ok) := by
  simp only [bringOnlineRule, withResource_of_val hr, admission_online]

section Offline

variable {q : Request MgmtKind} {s : State} (h : s.admitsMgmt q)

include h

theorem exec_takeOffline_refused (hkind : q.kind = .takeOffline) :
    (2 ≤ argByte q.args 1 → exec .takeOffline s = .next (s.afterMgmt q s.engine (.bare .badArg))) ∧
    (argByte q.args 1 < 2 → 32 ≤ argByte q.args 0 →
      exec .takeOffline s = .next (s.afterMgmt q s.engine (.bare .noResource))) := by
  have hexec : exec .takeOffline s = .next (s.takeMgmt q.kind takeOfflineRule) := by rw [hkind]; rfl
  rw [hexec]
  refine ⟨fun hbad => congrArg _ (takeMgmt_of_unchanged h ?_), fun hgood hn => congrArg _ (takeMgmt_of_unchanged h ?_)⟩
  · simp only [takeOfflineRule, yesNoOf_none.mpr hbad]
  · obtain ⟨force, hforce⟩ := Option.ne_none_iff_exists'.mp fun hnone => Nat.not_le.mpr hgood (yesNoOf_none.mp hnone)
    simp only [takeOfflineRule, hforce, withResource_above hn]

theorem exec_takeOffline (hkind : q.kind = .takeOffline) {r : ResourceId} (hr : r.val = argByte q.args 0)
    (hgood : argByte q.args 1 < 2) :
    let e := s.engine
    let counts := [byte (e.heldOn r), byte (e.waitingOn r)]
    ((e.run r).state = .offline → exec .takeOffline s = .next (s.afterMgmt q e (.bare .wrongState))) ∧
    ((e.run r).state ≠ .offline → argByte q.args 1 = 0 → e.heldOn r + e.waitingOn r ≠ 0 →
      exec .takeOffline s = .next (s.afterMgmt q e { status := .inUse, content := counts })) ∧
    ((e.run r).state ≠ .offline → argByte q.args 1 = 1 ∨ e.heldOn r + e.waitingOn r = 0 →
      exec .takeOffline s =
        .next (s.afterMgmt q (e.downed r (e.run r).spent) { status := .ok, content := counts })) := by
  have hexec : exec .takeOffline s = .next (s.takeMgmt q.kind takeOfflineRule) := by rw [hkind]; rfl
  obtain ⟨force, hforce⟩ := Option.ne_none_iff_exists'.mp fun hnone => Nat.not_le.mpr hgood (yesNoOf_none.mp hnone)
  have hcode := yesNoOf_some.mp hforce
  have hrule := takeOfflineRule_of_val hforce hr s
  rw [hexec]
  dsimp only at hrule
  refine ⟨fun ho => congrArg _ (takeMgmt_of_unchanged h (hrule.trans (if_pos ho))), fun ho hzero hlive => ?_,
    fun ho hdown => ?_⟩
  · have hf : ¬ force = true := fun hf => by
      rw [if_pos hf, hzero] at hcode
      exact absurd hcode (by decide)
    exact congrArg _ (takeMgmt_of_unchanged h (hrule.trans ((if_neg ho).trans (if_pos ⟨hf, hlive⟩))))
  · have hgoes : ¬ (¬ force = true ∧ s.engine.heldOn r + s.engine.waitingOn r ≠ 0) := fun ⟨hf, hlive⟩ => by
      rw [if_neg hf] at hcode
      exact hdown.elim (fun hone => absurd (hcode.symm.trans hone) (by decide)) hlive
    exact congrArg _ (takeMgmt_of_setEngine h (hrule.trans ((if_neg ho).trans (if_neg hgoes))))

theorem exec_bringOnline (hkind : q.kind = .bringOnline) {r : ResourceId} (hr : r.val = argByte q.args 0) :
    let e := s.engine
    ((e.run r).state ≠ .offline → exec .bringOnline s = .next (s.afterMgmt q e (.bare .wrongState))) ∧
    ((e.run r).state = .offline → (e.defn r).defined = false →
      exec .bringOnline s = .next (s.afterMgmt q e (.bare .offline))) ∧
    ((e.run r).state = .offline → (e.defn r).defined = true → (e.run r).spent = true →
      exec .bringOnline s = .next (s.afterMgmt q e (.bare .fenceSpent))) ∧
    ((e.run r).state = .offline → (e.defn r).defined = true → (e.run r).spent = false →
      exec .bringOnline s = .next (s.afterMgmt q (e.setRun r (e.run r).online) (.bare .ok))) := by
  have hexec : exec .bringOnline s = .next (s.takeMgmt q.kind bringOnlineRule) := by rw [hkind]; rfl
  have hrule := bringOnlineRule_of_val hr s
  rw [hexec]
  refine ⟨fun ho => congrArg _ (takeMgmt_of_unchanged h ?_), fun ho hd => congrArg _ (takeMgmt_of_unchanged h ?_),
    fun ho hd hs => congrArg _ (takeMgmt_of_unchanged h ?_), fun ho hd hs => congrArg _ (takeMgmt_of_setEngine h ?_)⟩
  · simp [hrule, ho]
  · simp [hrule, ho, hd]
  · simp [hrule, ho, hd, hs]
  · simp [hrule, ho, hd, hs]

end Offline

/-- Settles O37: each request by its own rule. -/
theorem takeOfflineAndBringOnline : Obligations.TakeOfflineAndBringOnline := by
  intro q s h e replies
  refine ⟨fun hkind => ?_, fun hkind => ⟨fun hn => ?_, fun r hr => ?_⟩⟩
  · have hcommand : q.kind.command = .takeOffline := by rw [hkind]; rfl
    simp only [replies, hcommand]
    obtain ⟨hbad, hnone⟩ := exec_takeOffline_refused h hkind
    exact ⟨hbad, hnone, fun r hr hgood => exec_takeOffline h hkind hr hgood⟩
  · exact (congrArg (exec · s) (show q.kind.command = .bringOnline by rw [hkind]; rfl)).trans <|
      (show exec .bringOnline s = .next (s.takeMgmt q.kind bringOnlineRule) by rw [hkind]; rfl).trans <|
        congrArg _ (takeMgmt_of_unchanged h (withResource_above hn _))
  · have hcommand : q.kind.command = .bringOnline := by rw [hkind]; rfl
    simp only [replies, hcommand]
    obtain ⟨hwrong, hoffline, hspent, hgood⟩ := exec_bringOnline h hkind hr
    refine ⟨hwrong, hoffline, hspent, fun ho hd hs => ?_⟩
    rw [hgood ho hd hs, Run.online, hs]

end Sys2Proof.Machine
end

section
/-! PROOF. The end of a load: what it reads from an image, and the part that it leaves. -/

namespace Sys2Proof.Machine

/-! ## What a load reads (R26, R87, R188, R193) -/

/-- Of a resource's number, which is below 32, a LINE definition is valid below 16 alone (R26). -/
theorem validDefinition_iff (r : ResourceId) (f : Nat → Nat) :
    validDefinition r.val f ↔
      f 0 < 16 ∧ ¬ ((f 0).testBit 1 = true ∧ 16 ≤ r.val) ∧ ((f 0).testBit 1 = true ∨ (1 ≤ f 1 ∧ f 1 ≤ 6)) ∧
        (1 ≤ f 4 ∧ f 4 ≤ 63) ∧ f 5 < 4 := by
  simp only [validDefinition, r.isLt, and_true]

/-- The ranges of R86 and the orderings of R87, as one chain for the thresholds and one for the ceilings. -/
theorem profile_valid_iff (x : Profile) :
    x.valid = true ↔
      (1 ≤ x.t1 ∧ x.t1 < x.t2 ∧ x.t2 < x.t3 ∧ x.t3 ≤ 63) ∧ x.h ≤ 7 ∧
      (1 ≤ x.c3 ∧ x.c3 ≤ x.c2 ∧ x.c2 ≤ x.c1 ∧ x.c1 ≤ x.c0 ∧ x.c0 ≤ 65535) ∧
      x.l0 ≤ 255 ∧ x.l1 ≤ 255 ∧ x.l2 ≤ 255 ∧ x.l3 ≤ 255 := by
  simp only [Profile.valid, Profile.inRange, Profile.ordered, List.all_cons, List.all_nil, Bool.and_eq_true,
    decide_eq_true_eq, and_true]
  omega

theorem loadedProfile_eq (m : Memory) (p : Fin 4) :
    loadedProfile (some m) p =
      if (profileOf (m.profileByte p)).valid then profileOf (m.profileByte p) else .factory := by
  rw [loadedProfile, Option.map_some, Option.filter_some]
  split <;> rfl

theorem loadedQuota_eq (m : Memory) (n : Client) :
    loadedQuota (some m) n =
      if 1 ≤ (m.read (imageQuotas + n.val)).toNat ∧ (m.read (imageQuotas + n.val)).toNat ≤ 64
      then (m.read (imageQuotas + n.val)).toNat else Config.factoryQuota := by
  rw [loadedQuota, Option.map_some, Option.filter_some]
  simp only [decide_eq_true_eq]
  split <;> rfl

theorem loadedDivider_eq (m : Memory) :
    loadedDivider (some m) =
      if 16 ≤ 256 * (m.read 328).toNat + (m.read 329).toNat then 256 * (m.read 328).toNat + (m.read 329).toNat
      else Config.factoryDivider := by
  rw [loadedDivider, Option.map_some, Option.filter_some]
  simp only [decide_eq_true_eq, Nat.mul_comm _ 256, Config.dividerMin, imageDivider]
  split <;> rfl

/-! ## What a load leaves (R31, R35, R187, R189) -/

theorem loaded_run_eq (d : Definition) (x : Run) :
    x.loaded d =
      { state := if d.defined = true ∧ d.startOnline = true ∧ x.spent = false then .free else .offline
        holders := 0, band := 0, fence := x.fence, spent := x.spent, queue := [] } := by
  unfold Run.loaded
  simp only [Bool.not_eq_true]
  split <;> rfl

theorem afterLoad_eq (f : Faults) (source : LoadSource) :
    f.afterLoad source =
      { f with
        imageSkipped := f.imageSkipped || decide (source = .factorySkipped)
        imageBad := f.imageBad || decide (source = .factorySpoilt) } := by
  cases source <;> simp [Faults.afterLoad]

theorem finishLoad_eq (s : State) (source : LoadSource) :
    s.finishLoad source = State.settle
      { s with
        engine := { s.engine.loaded (s.images.imageOf source) with faults := s.engine.faults.afterLoad source }
        divider := loadedDivider (s.images.imageOf source)
        images := { s.images with source := source }
        load := none
        part := if source = .factorySpoilt then .safe else .service
        running := if source = .factorySpoilt then s.running else true
        elapsed := if source = .factorySpoilt then s.elapsed else 0 } := by
  unfold State.finishLoad
  dsimp only
  split <;> rfl

/-- Settles O43: each value that a load reads, by its validity, and the part that `finishLoad` leaves. -/
theorem loadEndAppliesTheConfiguration : Obligations.LoadEndAppliesTheConfiguration := by
  refine ⟨fun r f => ⟨fun hv => ?_, fun hv => ?_⟩, fun f => ?_, profile_valid_iff, fun s source hload => ?_⟩
  · exact definitionOf_invalid fun h => hv ((validDefinition_iff r f).mp h)
  · obtain ⟨d, hd, hdefined, hk, hsafe, honline, hcapacity, hlead, hquarantine, hlimit, hprofile⟩ :=
      definitionOf_valid ((validDefinition_iff r f).mpr hv)
    exact ⟨d, hd, hdefined, hk, hsafe, honline, hcapacity, hlead, hquarantine, hlimit, hprofile⟩
  · simp only [profileOf, Nat.mul_comm _ 256]
  · intro image d p quota divider
    have himage : s.images.imageOf source = image := by cases source <;> rfl
    have hd : ∀ r, loadedDefinition image r = d r := fun r => by
      simp only [d]
      cases image <;> rfl
    have hp : ∀ i, loadedProfile image i = p i := fun i => by
      simp only [p]
      cases image with
      | none => rfl
      | some m => exact loadedProfile_eq m i
    have hquota : ∀ n, loadedQuota image n = quota n := fun n => by
      simp only [quota]
      cases image with
      | none => rfl
      | some m => exact loadedQuota_eq m n
    have hdivider : loadedDivider image = divider := by
      simp only [divider]
      cases image with
      | none => rfl
      | some m => exact loadedDivider_eq m
    simp only [exec, execLoadEnd, hload, finishLoad_eq, himage, Engine.loaded, loaded_run_eq, afterLoad_eq, hd, hp,
      hquota, hdivider]

end Sys2Proof.Machine
end

section
/-! PROOF. Fence counters and grants: a happening that grants nothing keeps every counter and every held fence; one that
grants raises the counter to the fence it gives (R32, R42, R58, R113). -/

namespace Sys2Proof.Machine

/-! ## Held records and the counters -/

/-- The lease in slot `k` that carries this fence on this resource. -/
def Engine.holdsFence (e : Engine) (k : SlotId) (r : ResourceId) (fence : Nat) : Prop :=
  ∃ rec g, e.record k = some rec ∧ rec.resource = r ∧ rec.standing = .held g ∧ g.fence = fence

/-- Every counter is kept, and every lease was there with its fence. -/
structure Engine.GrantsNone (e e' : Engine) : Prop where
  fence : ∀ r, (e'.run r).fence = (e.run r).fence
  held : ∀ k r f, e'.holdsFence k r f → e.holdsFence k r f

/-- The queue of `r` holds only waiters of `r`: what R44 promises of a queue and a grant relies on. -/
def Engine.QueueOwn (e : Engine) (r : ResourceId) : Prop :=
  ∀ k rec, k ∈ (e.run r).queue → e.record k = some rec → rec.resource = r

/-- Every queue holds its own resource's waiters. -/
def Engine.QueuesOwn (e : Engine) : Prop := ∀ r, e.QueueOwn r

/-- No counter falls, and every lease was there with its fence or carries one above its resource's counter. -/
structure Engine.GrantsAbove (e e' : Engine) : Prop where
  fence : ∀ r, (e.run r).fence ≤ (e'.run r).fence
  held : e.QueuesOwn → ∀ k r f, e'.holdsFence k r f → e.holdsFence k r f ∨ (e.run r).fence < f

/-- As `GrantsAbove`, and queues go on to hold their own resource's waiters. -/
structure Engine.Lifts (e e' : Engine) : Prop extends e.GrantsAbove e' where
  own : e.QueuesOwn → e'.QueuesOwn

theorem grantsNone_refl (e : Engine) : e.GrantsNone e := ⟨fun _ => rfl, fun _ _ _ => id⟩

theorem Engine.GrantsNone.trans {a b c : Engine} (h : a.GrantsNone b) (h' : b.GrantsNone c) : a.GrantsNone c :=
  ⟨fun r => (h'.fence r).trans (h.fence r), fun k r f hc => h.held k r f (h'.held k r f hc)⟩

theorem Engine.GrantsNone.grantsAbove {e e' : Engine} (h : e.GrantsNone e') : e.GrantsAbove e' :=
  ⟨fun r => (h.fence r).ge, fun _ k r f hf => .inl (h.held k r f hf)⟩

theorem Engine.Lifts.trans {a b c : Engine} (h : a.Lifts b) (h' : b.Lifts c) : a.Lifts c := by
  refine ⟨⟨fun r => (h.fence r).trans (h'.fence r), fun hown k r f hc => ?_⟩, fun hown => h'.own (h.own hown)⟩
  rcases h'.held (h.own hown) k r f hc with hb | hb
  · exact h.held hown k r f hb
  · exact .inr ((h.fence r).trans_lt hb)

/-- A queue that only loses records, while the records keep their claims, goes on to hold its own resource's waiters. -/
theorem Engine.QueueOwn.mono {e e' : Engine} {r : ResourceId} (h : e.QueueOwn r) (hf : e.Follows e')
    (ho : e.KeepsOrder e') : e'.QueueOwn r := fun k rec' hk hrec => by
  obtain ⟨rec, hrec, hp⟩ := hf.record hrec
  exact hp.claim.2.1.trans (h k rec ((ho r).subset hk) hrec)

theorem Engine.QueuesOwn.mono {e e' : Engine} (h : e.QueuesOwn) (hf : e.Follows e') (ho : e.KeepsOrder e') :
    e'.QueuesOwn := fun r => (h r).mono hf ho

theorem Engine.GrantsNone.lifts {e e' : Engine} (h : e.GrantsNone e') (hf : e.Follows e') (ho : e.KeepsOrder e') :
    e.Lifts e' := ⟨h.grantsAbove, fun hown => hown.mono hf ho⟩

theorem lifts_refl (e : Engine) : e.Lifts e := (grantsNone_refl e).lifts (.refl e) (keepsOrder_refl e)

theorem lifts_foldl {β : Type} {f : Engine → β → Engine} (hf : ∀ (e : Engine) b, e.Lifts (f e b)) (l : List β)
    (e : Engine) : e.Lifts (l.foldl f e) :=
  foldl_invariant (P := e.Lifts) l (lifts_refl e) fun a b _ h => h.trans (hf a b)

/-! ## Operations that grant nothing -/

/-- A record that is held was held, on the same resource and with the same fence. -/
def Record.KeepsFence (rec rec' : Record) : Prop :=
  rec'.resource = rec.resource ∧ ∀ g, rec'.standing = .held g → ∃ h, rec.standing = .held h ∧ h.fence = g.fence

theorem keepsFence_refl (rec : Record) : rec.KeepsFence rec := ⟨rfl, fun g hg => ⟨g, hg, rfl⟩⟩

theorem Record.Touches.keepsFence {rec rec' : Record} (h : rec.Touches rec') : rec.KeepsFence rec' :=
  ⟨h.resource, h.fence⟩

/-- A record that is not held any more. -/
theorem keepsFence_of_not_held {rec rec' : Record} (hr : rec'.resource = rec.resource) (h : rec'.isHeld = false) :
    rec.KeepsFence rec' :=
  ⟨hr, fun g hg => by rw [Record.isHeld, hg] at h; exact absurd h nofun⟩

theorem revoke_keepsFence (c : Cause) (rec : Record) : rec.KeepsFence (rec.revoke c) := by
  unfold Record.revoke
  split
  · exact keepsFence_of_not_held rfl rfl
  · exact keepsFence_refl rec

theorem lapse_keepsFence (c : Cause) (rec : Record) : rec.KeepsFence (rec.lapse c) := by
  unfold Record.lapse
  split
  · exact keepsFence_of_not_held rfl rfl
  · exact keepsFence_refl rec

theorem Record.KeepsFence.trans {a b c : Record} (h : a.KeepsFence b) (h' : b.KeepsFence c) : a.KeepsFence c := by
  refine ⟨h'.1.trans h.1, fun g hg => ?_⟩
  obtain ⟨x, hx, hxg⟩ := h'.2 g hg
  obtain ⟨y, hy, hyx⟩ := h.2 x hx
  exact ⟨y, hy, hyx.trans hxg⟩

/-- An operation that keeps the counters, and after which each record that is there was there and keeps its fence. -/
theorem grantsNone_of_records {e e' : Engine} (hfence : ∀ r, (e'.run r).fence = (e.run r).fence)
    (h : ∀ k rec', e'.record k = some rec' → ∃ rec, e.record k = some rec ∧ rec.KeepsFence rec') : e.GrantsNone e' := by
  refine ⟨hfence, ?_⟩
  rintro k r f ⟨rec', g, hk, hr, hs, hg⟩
  obtain ⟨rec, hrec, hres, hheld⟩ := h k rec' hk
  obtain ⟨x, hx, hxg⟩ := hheld g hs
  exact ⟨rec, x, hrec, hres.symm.trans hr, hx, hxg.trans hg⟩

theorem grantsNone_of_slots {e e' : Engine} (hfence : ∀ r, (e'.run r).fence = (e.run r).fence)
    (h : e'.slots = e.slots) : e.GrantsNone e' :=
  grantsNone_of_records hfence fun k rec hk => ⟨rec, by rwa [Engine.record, Engine.slot, h] at hk, keepsFence_refl rec⟩

theorem grantsAbove_of_slots {e e' : Engine} (hfence : ∀ r, (e'.run r).fence = (e.run r).fence)
    (h : e'.slots = e.slots) : e.GrantsAbove e' := (grantsNone_of_slots hfence h).grantsAbove

theorem grantsNone_of_empty {e e' : Engine} (hfence : ∀ r, (e'.run r).fence = (e.run r).fence) (h : e'.empty) :
    e.GrantsNone e' :=
  grantsNone_of_records hfence fun k rec hk => by rw [h k] at hk; exact absurd hk nofun

theorem fence_setRun {e : Engine} {r : ResourceId} {x : Run} (h : x.fence = (e.run r).fence) (q : ResourceId) :
    ((e.setRun r x).run q).fence = (e.run q).fence := by
  rw [Engine.run_setRun]
  split
  · rename_i hq
    rw [← hq, h]
  · rfl

theorem grantsNone_setRun (e : Engine) (r : ResourceId) (x : Run) (h : x.fence = (e.run r).fence) :
    e.GrantsNone (e.setRun r x) := grantsNone_of_slots (fence_setRun h) rfl

theorem grantsNone_setState (e : Engine) (r : ResourceId) (st : ResourceState) : e.GrantsNone (e.setState r st) :=
  grantsNone_setRun e r _ rfl

theorem grantsNone_depart (e : Engine) (r : ResourceId) (m : Mode) : e.GrantsNone (e.depart r m) :=
  grantsNone_setRun e r _ rfl

theorem grantsNone_mapRecords (e : Engine) {f : SlotId → Record → Record}
    (h : ∀ (k : SlotId) (rec : Record), rec.KeepsFence (f k rec)) :
    e.GrantsNone (e.mapRecords f) :=
  grantsNone_of_records (fun _ => rfl) fun k rec' hk => by
    rw [Engine.record_mapRecords, Option.map_eq_some_iff] at hk
    obtain ⟨rec, hrec, rfl⟩ := hk
    exact ⟨rec, hrec, h k rec⟩

theorem grantsNone_putRecord {e : Engine} {k : SlotId} {rec rec' : Record} (hk : e.record k = some rec)
    (h : rec.KeepsFence rec') : e.GrantsNone (e.putRecord k rec') :=
  grantsNone_of_records (fun _ => rfl) fun j x hj => by
    rw [Engine.record_putRecord] at hj
    split at hj
    · rename_i hkj
      cases hj
      exact ⟨rec, hkj ▸ hk, h⟩
    · exact ⟨x, hj, keepsFence_refl x⟩

theorem grantsNone_setBand (e : Engine) (r : ResourceId) (b : Nat) : e.GrantsNone (e.setBand r b) :=
  grantsNone_setRun e r { e.run r with band := b } rfl

theorem grantsNone_squeeze (e : Engine) (r : ResourceId) : e.GrantsNone (e.squeeze r) :=
  grantsNone_mapRecords e fun k rec => by
    split
    · exact (squeeze_touches _ _ rec).keepsFence
    · exact keepsFence_refl rec

theorem grantsNone_bandRule (e : Engine) (r : ResourceId) : e.GrantsNone (e.bandRule r) := by
  rw [bandRule_eq]
  simp only
  split
  · exact (grantsNone_setBand e r _).trans (grantsNone_squeeze _ r)
  · exact grantsNone_setBand e r _

theorem grantsNone_leaveQueue (e : Engine) (r : ResourceId) (k : SlotId) : e.GrantsNone (e.leaveQueue r k) :=
  (grantsNone_setRun e r { e.run r with queue := (e.run r).queue.erase k } rfl).trans (grantsNone_bandRule _ r)

theorem grantsNone_freeSlot (e : Engine) (k : SlotId) : e.GrantsNone (e.freeSlot k) := by
  refine grantsNone_of_records (fun r => by rw [run_of_resources (resources_freeSlot e k)]) fun j rec hj => ?_
  by_cases hkj : k = j
  · rw [← hkj, record_freeSlot_self] at hj
    exact absurd hj nofun
  · rw [record_freeSlot_ne e hkj] at hj
    exact ⟨rec, hj, keepsFence_refl rec⟩

theorem grantsNone_takeDown (e : Engine) (r : ResourceId) : e.GrantsNone (e.takeDown r) := by
  refine (grantsNone_mapRecords _ fun k rec => ?_).trans (grantsNone_setRun _ r _ rfl)
  split
  · exact (revoke_keepsFence .offline rec).trans (lapse_keepsFence .offline _)
  · exact keepsFence_refl rec

theorem grantsNone_exhaust (e : Engine) (r : ResourceId) : e.GrantsNone (e.exhaust r) :=
  ((grantsNone_takeDown e r).trans (grantsNone_setRun _ r { (e.takeDown r).run r with spent := true } rfl)).trans
    (grantsNone_of_slots (fun _ => rfl) rfl)

theorem grantsNone_revoke (e : Engine) (k : SlotId) (c : Cause) : e.GrantsNone (e.revoke k c) := by
  unfold Engine.revoke
  split
  · rename_i rec hk
    split
    · have hleft := (grantsNone_putRecord hk (revoke_keepsFence c rec)).trans
        (grantsNone_depart _ rec.resource rec.mode)
      simp only
      split
      · exact hleft.trans (grantsNone_setState _ _ _)
      · exact hleft
    · exact grantsNone_refl e
  · exact grantsNone_refl e

theorem grantsNone_lapse (e : Engine) (k : SlotId) (c : Cause) : e.GrantsNone (e.lapse k c) := by
  unfold Engine.lapse
  split
  · rename_i rec hk
    split
    · rename_i hw
      exact (grantsNone_leaveQueue e _ k).trans (grantsNone_putRecord
        (leaveQueue_record_of_not_held hk (not_isHeld_of_isWaiting hw)) (lapse_keepsFence c rec))
    · exact grantsNone_refl e
  · exact grantsNone_refl e

/-- A record that ends: `left` is the engine that its holder leaves behind. -/
theorem grantsNone_recordEnds {e left : Engine} (hleft : e.GrantsNone left) (k : SlotId) (rec : Record) :
    e.GrantsNone (if rec.isHeld then left.freeSlot k
      else if rec.isWaiting then (e.leaveQueue rec.resource k).freeSlot k else e.freeSlot k) := by
  split
  · exact hleft.trans (grantsNone_freeSlot _ k)
  · split
    · exact (grantsNone_leaveQueue e _ k).trans (grantsNone_freeSlot _ k)
    · exact grantsNone_freeSlot e k

theorem grantsNone_endRecord (n : Client) (e : Engine) (k : SlotId) : e.GrantsNone (e.endRecord n k) := by
  unfold Engine.endRecord
  split
  · split
    · exact grantsNone_recordEnds (grantsNone_depart e _ _) k _
    · exact grantsNone_refl e
  · exact grantsNone_refl e

theorem grantsNone_barRecord (n : Client) (e : Engine) (k : SlotId) : e.GrantsNone (e.barRecord n k) := by
  unfold Engine.barRecord
  split
  · split
    · exact grantsNone_recordEnds (grantsNone_revoke e k _) k _
    · exact grantsNone_refl e
  · exact grantsNone_refl e

/-- A WAITING record that an ACQUIRE makes carries no fence (R55). -/
theorem grantsNone_join {e : Engine} {k : SlotId} (n : Client) (r : ResourceId) (a : AcquireArgs) :
    e.GrantsNone (e.join n r a k) := by
  have hmade : e.GrantsNone (e.create k (a.waiter n r)) := by
    refine ⟨fun _ => rfl, ?_⟩
    rintro j q f ⟨rec, g, hj, hq, hs, hg⟩
    rw [Engine.create, Engine.record_setSession, Engine.record_putRecord] at hj
    split at hj
    · cases hj
      exact absurd hs nofun
    · exact ⟨rec, g, hj, hq, hs, hg⟩
  have hruled := fun q => (hmade.trans (grantsNone_setRun _ r
    { (e.create k (a.waiter n r)).run r with queue := q } rfl)).trans (grantsNone_bandRule _ r)
  unfold Engine.join
  simp only
  split
  · exact (hruled _).trans (grantsNone_setState _ _ _)
  · exact hruled _

theorem grantsNone_emptied (e : Engine) : e.GrantsNone e.emptied :=
  grantsNone_of_empty (fun r => by rw [emptied_eq, Engine.run, Engine.cleared, Table.get_tab])
    (empty_of_freed (slot_emptied e))

theorem grantsNone_pinReset (e : Engine) : e.GrantsNone e.pinReset :=
  grantsNone_of_empty (fun r => by rw [pinReset_eq, Engine.run, Table.get_tab]) (pinReset_empty e)

theorem grantsNone_loaded (e : Engine) (image : Option Memory) : e.GrantsNone (e.loaded image) :=
  grantsNone_of_slots (fun r => by simp only [Engine.run, Engine.loaded, Table.get_tab, loaded_run_eq]) rfl

/-! ## Operations that may grant -/

/-- A grant in place carries the raised counter, which stands above the counter as it was (R42, R58). -/
theorem lifts_grantHead {e : Engine} {r : ResourceId} {k : SlotId} {rec : Record} (hh : e.head r = some (k, rec)) :
    e.Lifts (e.grantHead r k rec) := by
  obtain ⟨hq, hk, hw⟩ := head_record hh
  have hown : e.QueuesOwn → (e.grantHead r k rec).QueuesOwn := fun hown =>
    hown.mono (inPlace_grantHead hh).follows (keepsOrder_grantHead e r k rec)
  refine ⟨?_, hown⟩
  clear hown
  unfold Engine.grantHead
  split
  · exact (grantsNone_exhaust e r).grantsAbove
  · have hleft := grantsNone_leaveQueue e r k
    refine ⟨fun q => ?_, fun hown j q f hj => ?_⟩
    · rw [Engine.run_putRecord, Engine.joinHolders, Engine.run_setRun, ← hleft.fence]
      split
      · rename_i hrq
        rw [← hrq]
        exact Nat.le_succ _
      · exact le_rfl
    · obtain ⟨x, g, hx, hxq, hs, hg⟩ := hj
      rw [Engine.record_putRecord, Engine.joinHolders, Engine.record_setRun] at hx
      split at hx
      · cases hx
        obtain rfl : rec.resource = q := hxq
        cases hs
        right
        rw [← hg, hown r k rec (List.mem_of_mem_head? hq) hk, ← hleft.fence]
        exact Nat.lt_succ_self _
      · exact .inl (hleft.held j q f ⟨x, g, hx, hxq, hs, hg⟩)

theorem lifts_setState (e : Engine) (r : ResourceId) (st : ResourceState) : e.Lifts (e.setState r st) :=
  (grantsNone_setState e r st).lifts (inPlace_setState e r st).follows (keepsOrder_setState e r st)

theorem lifts_admission (e : Engine) (r : ResourceId) : e.Lifts (e.admission r) :=
  admitPasses_induct (P := e.Lifts) (fun _ _ _ h => h.trans (lifts_setState _ _ _))
    (fun _ _ _ hh h => h.trans (lifts_grantHead hh)) _ (lifts_refl e)

theorem lifts_admissionWhere (e : Engine) (p : ResourceId → Bool) : e.Lifts (e.admissionWhere p) :=
  lifts_foldl lifts_admission _ e

theorem lifts_depart (e : Engine) (r : ResourceId) (m : Mode) : e.Lifts (e.depart r m) :=
  (grantsNone_depart e r m).lifts (inPlace_depart e r m).follows (keepsOrder_depart e r m)

theorem lifts_leaveQueue (e : Engine) (r : ResourceId) (k : SlotId) : e.Lifts (e.leaveQueue r k) :=
  (grantsNone_leaveQueue e r k).lifts (inPlace_leaveQueue e r k).follows (keepsOrder_leaveQueue e r k)

theorem lifts_freeSlot (e : Engine) (k : SlotId) : e.Lifts (e.freeSlot k) :=
  (grantsNone_freeSlot e k).lifts (follows_freeSlot e k) (keepsOrder_freeSlot e k)

theorem lifts_revoke (e : Engine) (k : SlotId) (c : Cause) : e.Lifts (e.revoke k c) :=
  (grantsNone_revoke e k c).lifts (inPlace_revoke e k c).follows (keepsOrder_revoke e k c)

theorem lifts_lapse (e : Engine) (k : SlotId) (c : Cause) : e.Lifts (e.lapse k c) :=
  (grantsNone_lapse e k c).lifts (inPlace_lapse e k c).follows (keepsOrder_lapse e k c)

theorem lifts_endSession (e : Engine) (n : Client) : e.Lifts (e.endSession n) :=
  (lifts_foldl (fun a k => (grantsNone_endRecord n a k).lifts (follows_endRecord n a k) (keepsOrder_endRecord n a k))
    _ e).trans (lifts_admissionWhere _ _)

theorem lifts_barSession (e : Engine) (n : Client) : e.Lifts (e.barSession n) :=
  (lifts_foldl (fun a k => (grantsNone_barRecord n a k).lifts (follows_barRecord n a k) (keepsOrder_barRecord n a k))
    _ e).trans (lifts_admissionWhere _ _)

theorem lifts_countQuarantine (before e : Engine) (r : ResourceId) :
    e.Lifts (Engine.countQuarantine before e r) := by
  unfold Engine.countQuarantine
  split
  · split
    · exact (lifts_setState _ _ _).trans (lifts_admission _ _)
    · exact lifts_setState _ _ _
  · exact lifts_refl e

theorem lifts_tick (e : Engine) : e.Lifts e.tick := by
  have hcountdown : e.Lifts e.countdown :=
    (grantsNone_mapRecords _ fun _ rec => (countdown_touches _ rec).keepsFence).lifts (inPlace_countdown e).follows
      (keepsOrder_of_resources rfl)
  have hlapses : e.countdown.Lifts e.afterLapses :=
    (lifts_foldl (fun a k => lifts_lapse a k .patience) _ _).trans (lifts_admissionWhere _ _)
  have hexpiries : e.afterLapses.Lifts e.afterExpiries :=
    (lifts_foldl (fun a k => lifts_revoke a k .expired) _ _).trans (lifts_admissionWhere _ _)
  exact ((hcountdown.trans hlapses).trans hexpiries).trans (lifts_foldl (lifts_countQuarantine e) _ _)

/-- An immediate grant carries the raised counter (R42, R54). -/
theorem grantsAbove_grantAtOnce (e : Engine) (n : Client) (r : ResourceId) (a : AcquireArgs) (k : SlotId) :
    e.GrantsAbove (e.grantAtOnce n r a k) := by
  refine ⟨fun q => ?_, fun _ j q f hj => ?_⟩
  · rw [Engine.grantAtOnce, Engine.create, Engine.run_setSession, Engine.run_putRecord, Engine.joinHolders,
      Engine.run_setRun]
    split
    · rename_i hrq
      rw [← hrq]
      exact Nat.le_succ _
    · exact le_rfl
  · obtain ⟨x, g, hx, hxq, hs, hg⟩ := hj
    rw [Engine.grantAtOnce, Engine.create, Engine.record_setSession, Engine.record_putRecord] at hx
    split at hx
    · cases hx
      obtain rfl : r = q := hxq
      cases hs
      right
      rw [← hg]
      exact Nat.lt_succ_self _
    · exact .inl ⟨x, g, hx, hxq, hs, hg⟩

/-! ## Every happening (R113) -/

theorem renewAll_grantsNone (e : Engine) (n : Client) : e.GrantsNone (e.renewAll n) := by
  unfold Engine.renewAll
  split
  · refine grantsNone_mapRecords _ fun _ rec => ?_
    unfold Engine.renewLine
    split
    · rename_i h hs
      split
      · exact (renewed_touches e hs none).keepsFence
      · exact keepsFence_refl rec
    · exact keepsFence_refl rec
  · exact grantsNone_refl e

theorem profiled_grantsNone (e : Engine) (p : Fin 4) (x : Profile) :
    e.GrantsNone ((e.setProfile p x).rerunBands p) :=
  (grantsNone_of_slots (e := e) (e' := e.setProfile p x) (fun _ => rfl) rfl).trans
    (foldl_invariant (P := (e.setProfile p x).GrantsNone) _ (grantsNone_refl _)
      fun a r _ h => h.trans (grantsNone_bandRule a r))

/-- No happening but a power-on reset lowers a counter, and every grant carries a fence above it. -/
theorem Engine.Yields.grantsAbove {e e' : Engine} {loading : Prop} {who : Option Client}
    (h : e.Yields loading who e') : e.GrantsAbove e' := by
  cases h
  case unchanged => exact (lifts_refl e).toGrantsAbove
  case faults => exact grantsAbove_of_slots (fun _ => rfl) rfl
  case opens => exact grantsAbove_of_slots (fun _ => rfl) rfl
  case reopens n => exact ⟨(lifts_endSession e n).fence, (lifts_endSession e n).held⟩
  case closes n => exact ⟨(lifts_endSession e n).fence, (lifts_endSession e n).held⟩
  case granted => exact grantsAbove_grantAtOnce e _ _ _ _
  case exhausted => exact (grantsNone_exhaust e _).grantsAbove
  case joined => exact (grantsNone_join _ _ _).grantsAbove
  case renewed hk hs _ => exact (grantsNone_putRecord hk (renewed_touches e hs _).keepsFence).grantsAbove
  case released =>
    exact (((lifts_depart e _ _).trans (lifts_freeSlot _ _)).trans (lifts_admission _ _)).toGrantsAbove
  case cancelled =>
    exact (((lifts_leaveQueue e _ _).trans (lifts_freeSlot _ _)).trans (lifts_admission _ _)).toGrantsAbove
  case discarded => exact (grantsNone_freeSlot e _).grantsAbove
  case acknowledged hk _ => exact (grantsNone_putRecord hk (unseen_touches _ _).keepsFence).grantsAbove
  case forced => exact ((lifts_revoke e _ _).trans (lifts_admission _ _)).toGrantsAbove
  case dropped => exact ((lifts_lapse e _ _).trans (lifts_admission _ _)).toGrantsAbove
  case defined r d _ _ => exact grantsAbove_of_slots (fun q => by rw [Engine.run_setDefn]) rfl
  case profiled => exact (profiled_grantsNone e _ _).grantsAbove
  case quota => exact grantsAbove_of_slots (fun _ => rfl) rfl
  case bars n => exact ⟨(lifts_barSession e n).fence, (lifts_barSession e n).held⟩
  case unbars => exact grantsAbove_of_slots (fun _ => rfl) rfl
  case lifted => exact ((lifts_setState e _ _).trans (lifts_admission _ _)).toGrantsAbove
  case takenDown r => exact (grantsNone_takeDown e r).grantsAbove
  case online r _ _ _ =>
    rw [admission_online]
    exact (grantsNone_setRun e r (e.run r).online rfl).grantsAbove
  case emptied f =>
    have hfaults : e.GrantsNone { e with faults := f } := grantsNone_of_slots (fun _ => rfl) rfl
    exact (hfaults.trans (grantsNone_emptied _)).grantsAbove
  case renewedAll n => exact (renewAll_grantsNone e n).grantsAbove
  case ticked => exact (lifts_tick e).toGrantsAbove
  case pinReset => exact (grantsNone_pinReset e).grantsAbove
  case loaded image f =>
    have hfaults : (e.loaded image).GrantsNone { e.loaded image with faults := f } :=
      grantsNone_of_slots (fun _ => rfl) rfl
    exact ((grantsNone_loaded e image).trans hfaults).grantsAbove

/-- R44's queues hold their own resource's waiters. -/
theorem queuesOwn_of_queueLaw {e : Engine} (h : e.queueLaw) : e.QueuesOwn := fun r k rec hk hrec => by
  have hw := ((h r).2 k).mp hk
  rw [hrec, Option.any_some, Bool.and_eq_true, decide_eq_true_eq] at hw
  exact hw.1

/-- The happenings that R113 names keep every counter. -/
theorem fence_kept {c : Instr} {s t : State} (h : exec c s = .next t)
    (hc : c = .resetPinAssert ∨ c = .serviceReset ∨ c = .enterSafe ∨ c = .takeOffline ∨ c = .bringOnline ∨
      c = .defineResource) (r : ResourceId) : (t.engine.run r).fence = (s.engine.run r).fence := by
  rcases hc with rfl | rfl | rfl | rfl | rfl | rfl
  · rw [execResetPinAssert_eq] at h
    cases h
    exact (grantsNone_pinReset s.engine).fence r
  · cases h
    split
    · obtain ⟨f, hf⟩ := restart_engine (s.placeMgmt .serviceReset (.bare .ok))
      rw [State.settle_engine, hf]
      exact (grantsNone_emptied { s.engine with faults := f }).fence r
    · rfl
  all_goals
    cases h
    refine takeMgmt_engine (P := fun e => (e.run r).fence = (s.engine.run r).fence) rfl fun args => ?_
  · exact (grantsNone_emptied s.engine).fence r
  · unfold takeOfflineRule
    split
    · rfl
    · refine withResource_engine (P := fun e => (e.run r).fence = (s.engine.run r).fence) rfl fun q _ => ?_
      dsimp only
      split_ifs
      · rfl
      · rfl
      · exact (grantsNone_takeDown s.engine q).fence r
  · refine withResource_engine (P := fun e => (e.run r).fence = (s.engine.run r).fence) rfl fun q _ => ?_
    simp only [admission_online]
    split_ifs
    · rfl
    · rfl
    · exact (grantsNone_setRun s.engine q (s.engine.run q).online rfl).fence r
    · rfl
  · unfold defineResourceRule
    split
    · rfl
    · refine withResource_engine (P := fun e => (e.run r).fence = (s.engine.run r).fence) rfl fun q _ => ?_
      split
      · rw [State.setEngine_engine, Engine.run_setDefn]
      · rfl

/-- Settles O57, by what each happening makes of the engine. -/
theorem fenceCountersNeverFallAndGrantsExceedThem : Obligations.FenceCountersNeverFallAndGrantsExceedThem := by
  intro c s t h
  refine ⟨?_, fun hc => ?_, fence_kept h⟩
  · rintro ⟨a, i, rfl⟩ r
    rw [exec_powerOnReset_engine h]
    exact congrArg Run.fence (reset_run r)
  · obtain ⟨who, hy⟩ := exec_yields hc h
    refine ⟨hy.grantsAbove.fence, fun hlaw k rec g hk hs => ?_⟩
    rcases hy.grantsAbove.held (queuesOwn_of_queueLaw hlaw) k rec.resource g.fence ⟨rec, g, hk, rfl, hs, rfl⟩ with
      ⟨rec', x, hrec, -, hx, hfence⟩ | habove
    · exact .inl ⟨rec', x, hrec, hx, hfence⟩
    · exact .inr habove

end Sys2Proof.Machine
end

section
/-! PROOF. Admission (R57): what one pass does in each row, that it comes to rest, and that it leaves every other
resource and every other resource's records alone (R56). -/

namespace Sys2Proof.Machine

/-! ## The rows of R57 -/

theorem head_setState (e : Engine) (r : ResourceId) (st : ResourceState) : (e.setState r st).head r = e.head r := by
  simp only [Engine.head, Engine.setState, Engine.run_setRun_self, Engine.record_setRun]

/-- Admission stops at once in OFFLINE, QUARANTINE and EXCLUSIVE. -/
theorem admitPasses_closed {e : Engine} {r : ResourceId}
    (h : (e.run r).state = .offline ∨ (∃ q, (e.run r).state = .quarantine q) ∨ (e.run r).state = .exclusive)
    (fuel : Nat) : Engine.admitPasses fuel e r = e := by
  cases fuel with
  | zero => rfl
  | succ fuel => rcases h with h | ⟨q, h⟩ | h <;> simp only [Engine.admitPasses, h]

/-- With no waiter at the head, a resource that is FREE or SHARED stays so. -/
theorem admitPasses_unqueued {e : Engine} {r : ResourceId} (hh : e.head r = none)
    (hs : (e.run r).state = .free ∨ (e.run r).state = .shared) (fuel : Nat) : Engine.admitPasses fuel e r = e := by
  cases fuel with
  | zero => rfl
  | succ fuel => rcases hs with hs | hs <;> simp only [Engine.admitPasses, hs, hh]

section
variable {e : Engine} {r : ResourceId} {k : SlotId} {rec : Record} (hh : e.head r = some (k, rec))
include hh

/-- While it has holders, a DRAINING resource keeps its EXCLUSIVE head waiting. -/
theorem admitPasses_draining_held (hm : rec.mode = .exclusive) (hs : (e.run r).state = .draining)
    (hz : 0 < (e.run r).holders) (fuel : Nat) : Engine.admitPasses fuel e r = e := by
  cases fuel with
  | zero => rfl
  | succ fuel => simp only [Engine.admitPasses, hs, hh, hm, if_pos hz]

/-- An EXCLUSIVE head is granted where nobody holds the resource. -/
theorem admitPasses_exclusive (hm : rec.mode = .exclusive)
    (hs : (e.run r).state = .free ∨ (e.run r).state = .draining ∧ (e.run r).holders = 0) (fuel : Nat) :
    Engine.admitPasses (fuel + 1) e r = e.grantHead r k rec := by
  rcases hs with hs | ⟨hs, hz⟩
  · simp only [Engine.admitPasses, hs, hh, hm]
  · simp only [Engine.admitPasses, hs, hh, hm, hz, Nat.lt_irrefl, if_false]

/-- An EXCLUSIVE head makes a SHARED resource DRAINING. -/
theorem admitPasses_turns (hm : rec.mode = .exclusive) (hs : (e.run r).state = .shared) (fuel : Nat) :
    Engine.admitPasses (fuel + 1) e r = e.setState r .draining := by
  simp only [Engine.admitPasses, hs, hh, hm]

/-- A SHARED head is granted while there is capacity, and admission goes on. -/
theorem admitPasses_shared (hm : rec.mode = .shared) (hs : (e.run r).state = .free ∨ (e.run r).state = .shared)
    (hc : (e.run r).holders < (e.defn r).capacity) (fuel : Nat) :
    Engine.admitPasses (fuel + 1) e r = Engine.admitPasses fuel (e.grantHead r k rec) r := by
  rcases hs with hs | hs <;> simp only [Engine.admitPasses, hs, hh, hm, if_pos hc]

/-- A SHARED head waits while there is no capacity. -/
theorem admitPasses_full (hm : rec.mode = .shared) (hs : (e.run r).state = .free ∨ (e.run r).state = .shared)
    (hc : (e.defn r).capacity ≤ (e.run r).holders) (fuel : Nat) : Engine.admitPasses fuel e r = e := by
  cases fuel with
  | zero => rfl
  | succ fuel => rcases hs with hs | hs <;> simp only [Engine.admitPasses, hs, hh, hm, if_neg (Nat.not_lt.mpr hc)]

/-- After a grant in place no more passes are needed than waiters are left. -/
theorem admitPasses_grantHead {fuel : Nat} (hf : (e.run r).queue.length ≤ fuel) (hm : rec.mode = .shared) :
    Engine.admitPasses fuel (e.grantHead r k rec) r = (e.grantHead r k rec).admission r := by
  rw [grantHead_eq]
  rcases granted_cases (head_record hh) with ho | ⟨hs, hl⟩
  · rw [admitPasses_offline _ ho, admission_offline ho]
  · exact admission_eq (by rw [hs, hm]; exact nofun) (by omega)

end

/-- The state that the end of DRAINING leaves. -/
abbrev Run.drainedState (x : Run) : ResourceState := if 0 < x.holders then .shared else .free

/-- DRAINING ends where no EXCLUSIVE record is at the head. -/
theorem admitPasses_drained {e : Engine} {r : ResourceId} (hs : (e.run r).state = .draining)
    (hh : ∀ k rec, e.head r = some (k, rec) → rec.mode = .shared) (fuel : Nat) :
    Engine.admitPasses (fuel + 1) e r = Engine.admitPasses fuel (e.setState r (e.run r).drainedState) r := by
  cases hr : e.head r with
  | none => simp only [Engine.admitPasses, hs, hr]
  | some head => simp only [Engine.admitPasses, hs, hr, hh head.1 head.2 hr]

theorem state_drained (e : Engine) (r : ResourceId) :
    ((e.setState r (e.run r).drainedState).run r).state = (e.run r).drainedState := by
  rw [Engine.setState, Engine.run_setRun_self]

theorem drainedState_ne (x : Run) : x.drainedState ≠ .draining := by
  unfold Run.drainedState
  split <;> exact nofun

theorem admission_drained {e : Engine} {r : ResourceId} (hs : (e.run r).state = .draining)
    (hh : ∀ k rec, e.head r = some (k, rec) → rec.mode = .shared) :
    e.admission r = (e.setState r (e.run r).drainedState).admission r := by
  refine (admitPasses_drained hs hh _).trans (admission_eq (by rw [state_drained]; exact drainedState_ne _) ?_)
  rw [Engine.setState, Engine.run_setRun_self]
  exact Nat.lt_succ_self _

/-! ## Admission comes to rest -/

/-- No pass of admission for `r` changes anything. -/
def Engine.AtRest (e : Engine) (r : ResourceId) : Prop := ∀ fuel, Engine.admitPasses fuel e r = e

/-- A grant leaves a holder, or the resource OFFLINE. -/
theorem grantHead_rest {e : Engine} {r : ResourceId} {k : SlotId} {rec : Record} (hh : e.head r = some (k, rec)) :
    ((e.grantHead r k rec).run r).state = .offline ∨
    (((e.grantHead r k rec).run r).state = rec.mode.grantedState ∧ 0 < ((e.grantHead r k rec).run r).holders ∧
      ((e.grantHead r k rec).run r).queue.length + 1 = (e.run r).queue.length) := by
  rw [grantHead_eq]
  rcases granted_cases (head_record hh) with ho | ⟨hs, hl⟩
  · exact .inl ho
  · refine .inr ⟨hs, ?_, hl⟩
    by_cases hf : Config.fenceMax ≤ (e.run r).fence
    · rw [show e.granted r k rec = e.exhausted r from if_pos hf, exhausted_state] at hs
      exact absurd hs (by cases rec.mode <;> exact nofun)
    · simp only [Engine.granted, hf, if_false, Engine.run_setSlot, Engine.run_setRun_self]
      exact Nat.succ_pos _

/-- An EXCLUSIVE grant is the last. -/
theorem atRest_grantHead_exclusive {e : Engine} {r : ResourceId} {k : SlotId} {rec : Record}
    (hh : e.head r = some (k, rec)) (hm : rec.mode = .exclusive) : (e.grantHead r k rec).AtRest r := by
  refine admitPasses_closed ?_
  rcases grantHead_rest hh with ho | ⟨hs, -⟩
  · exact .inl ho
  · rw [hm] at hs
    exact .inr (.inr hs)

theorem atRest_turned {e : Engine} {r : ResourceId} {k : SlotId} {rec : Record} (hh : e.head r = some (k, rec))
    (hm : rec.mode = .exclusive) (hz : 0 < (e.run r).holders) : (e.setState r .draining).AtRest r :=
  admitPasses_draining_held (by rw [head_setState]; exact hh) hm
    (by rw [Engine.setState, Engine.run_setRun_self]) (by rw [Engine.setState, Engine.run_setRun_self]; exact hz)

/-- From a state other than DRAINING, by as many passes as there are waiters and one more. -/
theorem atRest_admitPasses {r : ResourceId} (fuel : Nat) {e : Engine} (hd : (e.run r).state ≠ .draining)
    (hz : (e.run r).state = .shared → 0 < (e.run r).holders) (hf : (e.run r).queue.length < fuel) :
    (Engine.admitPasses fuel e r).AtRest r := by
  induction fuel generalizing e with
  | zero => exact absurd hf (Nat.not_lt_zero _)
  | succ fuel ih =>
    by_cases hopen : (e.run r).state = .free ∨ (e.run r).state = .shared
    · cases hh : e.head r with
      | none =>
        rw [admitPasses_unqueued hh hopen]
        exact admitPasses_unqueued hh hopen
      | some head =>
        obtain ⟨k, rec⟩ := head
        cases hm : rec.mode with
        | exclusive =>
          rcases hopen with hs | hs
          · rw [admitPasses_exclusive hh hm (.inl hs)]
            exact atRest_grantHead_exclusive hh hm
          · rw [admitPasses_turns hh hm hs]
            exact atRest_turned hh hm (hz hs)
        | shared =>
          by_cases hc : (e.run r).holders < (e.defn r).capacity
          · rw [admitPasses_shared hh hm hopen hc]
            rcases grantHead_rest hh with ho | ⟨hs, hheld, hl⟩
            · rw [admitPasses_offline _ ho]
              exact fun f => admitPasses_offline f ho
            · exact ih (by rw [hs, hm]; exact nofun) (fun _ => hheld) (by omega)
          · rw [admitPasses_full hh hm hopen (Nat.not_lt.mp hc)]
            exact admitPasses_full hh hm hopen (Nat.not_lt.mp hc)
    · have hclosed : (e.run r).state = .offline ∨ (∃ q, (e.run r).state = .quarantine q) ∨
          (e.run r).state = .exclusive := by
        cases hs : (e.run r).state with
        | free => exact absurd (.inl hs) hopen
        | shared => exact absurd (.inr hs) hopen
        | draining => exact absurd hs hd
        | offline => exact .inl rfl
        | quarantine q => exact .inr (.inl ⟨q, rfl⟩)
        | exclusive => exact .inr (.inr rfl)
      rw [admitPasses_closed hclosed]
      exact admitPasses_closed hclosed

theorem atRest_admission {e : Engine} {r : ResourceId} (hz : (e.run r).state = .shared → 0 < (e.run r).holders) :
    (e.admission r).AtRest r := by
  by_cases hd : (e.run r).state = .draining
  · by_cases hh : ∀ k rec, e.head r = some (k, rec) → rec.mode = .shared
    · rw [admission_drained hd hh]
      refine atRest_admitPasses _ (by rw [state_drained]; exact drainedState_ne _) (fun hs => ?_)
        (Nat.lt_add_of_pos_right (by decide))
      rw [state_drained, Run.drainedState] at hs
      rw [Engine.setState, Engine.run_setRun_self]
      by_contra hno
      rw [if_neg hno] at hs
      exact absurd hs nofun
    · push Not at hh
      obtain ⟨k, rec, hh, hm⟩ := hh
      have hm : rec.mode = .exclusive := by
        cases hr : rec.mode with
        | exclusive => rfl
        | shared => exact absurd hr hm
      by_cases hheld : 0 < (e.run r).holders
      · rw [Engine.admission, admitPasses_draining_held hh hm hd hheld]
        exact admitPasses_draining_held hh hm hd hheld
      · rw [Engine.admission, admitPasses_exclusive hh hm (.inr ⟨hd, Nat.eq_zero_of_not_pos hheld⟩)]
        exact atRest_grantHead_exclusive hh hm
  · exact atRest_admitPasses _ hd hz (Nat.lt_add_of_pos_right (by decide))

/-! ## Admission touches its own resource alone (R56) -/

/-- Every record that names another resource than `r` stands as it stood. -/
def Engine.SparesOthers (r : ResourceId) (e e' : Engine) : Prop :=
  ∀ k rec, e.record k = some rec → rec.resource ≠ r → e'.record k = some rec

theorem Engine.SparesOthers.trans {r : ResourceId} {a b c : Engine} (h : a.SparesOthers r b) (h' : b.SparesOthers r c) :
    a.SparesOthers r c := fun k rec hk hr => h' k rec (h k rec hk hr) hr

theorem sparesOthers_of_slots {r : ResourceId} {e e' : Engine} (h : e'.slots = e.slots) : e.SparesOthers r e' :=
  fun k rec hk _ => by rwa [Engine.record, Engine.slot, h]

theorem sparesOthers_mapRecords (e : Engine) (r : ResourceId) {f : SlotId → Record → Record}
    (h : ∀ k rec, rec.resource ≠ r → f k rec = rec) : e.SparesOthers r (e.mapRecords f) := fun k rec hk hr => by
  rw [Engine.record_mapRecords, hk, Option.map_some, h k rec hr]

theorem sparesOthers_bandRule (e : Engine) (r : ResourceId) : e.SparesOthers r (e.bandRule r) := by
  have hset : ∀ b, e.SparesOthers r (e.setBand r b) := fun b => sparesOthers_of_slots rfl
  rw [bandRule_eq]
  simp only
  split
  · exact (hset _).trans (sparesOthers_mapRecords _ r fun k rec hr => if_neg hr)
  · exact hset _

theorem sparesOthers_leaveQueue (e : Engine) (r : ResourceId) (k : SlotId) : e.SparesOthers r (e.leaveQueue r k) :=
  (sparesOthers_of_slots (e' := e.setQueue r ((e.run r).queue.erase k)) rfl).trans (sparesOthers_bandRule _ r)

theorem sparesOthers_exhaust (e : Engine) (r : ResourceId) : e.SparesOthers r (e.exhaust r) := by
  have hdown : e.SparesOthers r (e.takeDown r) :=
    (sparesOthers_mapRecords e r fun k rec hr => if_neg hr).trans (sparesOthers_of_slots rfl)
  exact hdown.trans (sparesOthers_of_slots rfl)

/-- A grant from the queue of a waiter of its own. -/
theorem sparesOthers_grantHead {e : Engine} {r : ResourceId} {k : SlotId} {rec : Record}
    (hk : e.record k = some rec) (hr : rec.resource = r) : e.SparesOthers r (e.grantHead r k rec) := by
  unfold Engine.grantHead
  split
  · exact sparesOthers_exhaust e r
  · intro j x hj hx
    have hkj : k ≠ j := fun heq => by
      rw [← heq, hk, Option.some.injEq] at hj
      exact hx (hj ▸ hr)
    rw [Engine.record_putRecord, if_neg hkj]
    exact sparesOthers_leaveQueue e r k j x hj hx

theorem sparesOthers_admission {e : Engine} {r : ResourceId} (h : e.QueueOwn r) :
    e.SparesOthers r (e.admission r) := by
  have hinv : e.SparesOthers r (e.admission r) ∧ (e.admission r).QueueOwn r := by
    refine admitPasses_induct (P := fun a => e.SparesOthers r a ∧ a.QueueOwn r) (fun a st _ ha => ?_)
      (fun a k rec hh ha => ?_) _ ⟨fun _ _ hk _ => hk, h⟩
    · exact ⟨ha.1.trans (sparesOthers_of_slots rfl),
        ha.2.mono (inPlace_setState a r st).follows (keepsOrder_setState a r st)⟩
    · obtain ⟨hq, hk, -⟩ := head_record hh
      exact ⟨ha.1.trans (sparesOthers_grantHead hk (ha.2 k rec (List.mem_of_mem_head? hq) hk)),
        ha.2.mono (inPlace_grantHead hh).follows (keepsOrder_grantHead a r k rec)⟩
  exact hinv.1

theorem profiles_admission (e : Engine) (r : ResourceId) : (e.admission r).profiles = e.profiles := by
  refine admitPasses_induct (P := fun a => a.profiles = e.profiles) (fun _ _ _ ha => ha) (fun a k rec _ ha => ?_) _ rfl
  unfold Engine.grantHead
  split
  · exact ha
  · exact (profiles_leaveQueue a r k).trans ha

theorem Engine.InPlace.isSome {e e' : Engine} (h : e.InPlace e') (k : SlotId) :
    (e'.record k).isSome = (e.record k).isSome := by
  have hrel := h.records k
  revert hrel
  generalize e.record k = x, e'.record k = y
  rintro (_ | _) <;> rfl

/-- Settles O34: each row by one pass, and the rest by what every pass keeps. -/
theorem admissionSettlesItsResourceAlone : Obligations.AdmissionSettlesItsResourceAlone := by
  intro e r
  refine ⟨fun h => admitPasses_closed h _, fun hno => ?_, fun k rec h hm => ?_, fun k rec h hm => ?_, fun hz hq => ?_⟩
  · have hh := head_none hno
    exact ⟨fun hs => admission_drained hs (fun k rec hk => absurd (hh.symm.trans hk) nofun),
      fun hs => admitPasses_unqueued hh hs _⟩
  · have hh := head_of_headed h
    rw [← grantHead_eq]
    exact ⟨fun hs hz => admitPasses_draining_held hh hm hs hz _,
      fun hs hz => admitPasses_exclusive hh hm (.inr ⟨hs, hz⟩) _,
      fun hs => admitPasses_exclusive hh hm (.inl hs) _, fun hs => admitPasses_turns hh hm hs _⟩
  · have hh := head_of_headed h
    rw [← grantHead_eq]
    refine ⟨fun hs => admission_drained hs fun j x hj => ?_, fun hs hc => ?_,
      fun hs hc => admitPasses_full hh hm (.inr hs) hc _⟩
    · rw [hh] at hj
      cases hj
      exact hm
    · exact (admitPasses_shared hh hm hs hc _).trans (admitPasses_grantHead hh (Nat.le_succ _) hm)
  · have hown : e.QueueOwn r := fun k rec hk hrec => by
      have hall := hq k hk
      rwa [hrec, Option.all_some, decide_eq_true_eq] at hall
    have hruns := runsOnly_admission e r
    have hplace := inPlace_admission e r
    refine ⟨atRest_admission hz _, fun r' hr => ⟨hruns.defn r', hruns.others r' hr⟩, hruns.defn r, hplace.sessions,
      profiles_admission e r, fun k => ⟨hplace.generation k, hplace.isSome k, fun hall => ?_⟩⟩
    cases hk : e.record k with
    | none => exact Option.not_isSome_iff_eq_none.mp (by rw [hplace.isSome, hk]; exact nofun)
    | some rec =>
      rw [hk, Option.all_some, decide_eq_true_eq] at hall
      exact sparesOthers_admission hown k rec hk hall

end Sys2Proof.Machine
end

section
/-! PROOF. What a request's own rule leaves: most change the lease engine alone, begin and end no session, and answer
no more than a response of 32 bytes carries (R117, R192, 12.3). -/

namespace Sys2Proof.Machine

/-! ## Sessions that stand -/

/-- Every session stands as it stood, but for its record count. -/
def Engine.KeepsSessions (e e' : Engine) : Prop :=
  ∀ n, (e'.session n).state = (e.session n).state ∧ (e'.session n).quota = (e.session n).quota

theorem keepsSessions_of_eq {e e' : Engine} (h : e'.sessions = e.sessions) : e.KeepsSessions e' := fun n => by
  rw [Engine.session, h]
  exact ⟨rfl, rfl⟩

theorem Engine.InPlace.keepsSessions {e e' : Engine} (h : e.InPlace e') : e.KeepsSessions e' :=
  keepsSessions_of_eq h.sessions

theorem Engine.KeepsSessions.trans {a b c : Engine} (h : a.KeepsSessions b) (h' : b.KeepsSessions c) :
    a.KeepsSessions c := fun n => ⟨(h' n).1.trans (h n).1, (h' n).2.trans (h n).2⟩

theorem keepsSessions_setSession (e : Engine) (n : Client) {x : Session} (hst : x.state = (e.session n).state)
    (hq : x.quota = (e.session n).quota) : e.KeepsSessions (e.setSession n x) := fun m => by
  rw [Engine.session_setSession]
  split
  · rename_i hm
    rw [← hm]
    exact ⟨hst, hq⟩
  · exact ⟨rfl, rfl⟩

theorem keepsSessions_create (e : Engine) (k : SlotId) (rec : Record) : e.KeepsSessions (e.create k rec) :=
  keepsSessions_setSession (e.putRecord k rec) rec.client rfl rfl

theorem keepsSessions_freeSlot (e : Engine) (k : SlotId) : e.KeepsSessions (e.freeSlot k) := by
  unfold Engine.freeSlot
  split
  · exact fun _ => ⟨rfl, rfl⟩
  · exact keepsSessions_setSession (e.setSlot k (e.slot k).freed) _ rfl rfl

/-- A record that leaves the table, and the admission that follows. -/
theorem keepsSessions_vacate {e left : Engine} (h : e.InPlace left) (k : SlotId) (r : ResourceId) :
    e.KeepsSessions ((left.freeSlot k).admission r) :=
  (h.keepsSessions.trans (keepsSessions_freeSlot left k)).trans (inPlace_admission _ r).keepsSessions

theorem keepsSessions_join (e : Engine) (n : Client) (r : ResourceId) (a : AcquireArgs) (k : SlotId) :
    e.KeepsSessions (e.join n r a k) := by
  have hruled : ∀ q, e.KeepsSessions (((e.create k (a.waiter n r)).setQueue r q).bandRule r) := fun q =>
    (keepsSessions_create e k _).trans (keepsSessions_of_eq (bandRule_sessions _ r))
  unfold Engine.join
  dsimp only
  split
  · exact hruled _
  · exact hruled _

theorem keepsSessions_rerunBands (e : Engine) (p : Fin 4) : e.KeepsSessions (e.rerunBands p) :=
  foldl_invariant (P := e.KeepsSessions) _ (fun _ => ⟨rfl, rfl⟩)
    fun a r _ h => h.trans (keepsSessions_of_eq (bandRule_sessions a r))

/-! ## The answer of a rule -/

/-- The longest content of a response (12.3, R192). -/
abbrev longestContent : Nat := 27

/-- The rule changed the lease engine alone, began and ended no session, and its answer fits a response. -/
structure State.Answers (s : State) (out : State × Answer) : Prop where
  frame : out.1 = s.setEngine out.1.engine
  sessions : s.engine.KeepsSessions out.1.engine
  fits : out.2.content.length ≤ longestContent

section
variable {s : State}

/-- A rule that only reads. -/
theorem answers_reads {a : Answer} (h : a.content.length ≤ longestContent) : s.Answers (s, a) :=
  ⟨rfl, fun _ => ⟨rfl, rfl⟩, h⟩

theorem answers_bare (st : Status) : s.Answers (s, .bare st) := answers_reads (Nat.zero_le _)

theorem answers_tombstone (st : Status) (c : Cause) : s.Answers (s, tombstoneAnswer st c) :=
  answers_reads (by decide : (1 : Nat) ≤ longestContent)

theorem answers_engine {e : Engine} {a : Answer} (hs : s.engine.KeepsSessions e)
    (h : a.content.length ≤ longestContent) : s.Answers (s.setEngine e, a) := ⟨rfl, hs, h⟩

theorem withHandle_answers {owner : Option Client} {w : Nat} {rule : SlotId → Record → State × Answer}
    (h : ∀ k rec, s.Answers (rule k rec)) : s.Answers (s.withHandle owner w rule) := by
  unfold State.withHandle
  split
  · exact answers_bare _
  · split
    · exact h _ _
    · split
      · exact h _ _
      · exact answers_bare _

theorem withResource_answers {number : Nat} {rule : ResourceId → State × Answer} (h : ∀ r, s.Answers (rule r)) :
    s.Answers (s.withResource number rule) := by
  unfold State.withResource
  split
  · exact h _
  · exact answers_bare _

theorem withClient_answers {number : Nat} {rule : Client → State × Answer} (h : ∀ n, s.Answers (rule n)) :
    s.Answers (s.withClient number rule) := by
  unfold State.withClient
  split
  · exact h _
  · exact answers_bare _

end

/-! ## Lengths of the record layouts (12.4, 12.5) -/

theorem length_heldContent (h : Held) : (heldContent h).length = 4 := rfl

theorem length_definition_bytes (d : Definition) : d.bytes.length = 6 := rfl

theorem length_profile_bytes (p : Profile) : p.bytes.length = 16 := rfl

theorem length_resourceBytes (s : State) (r : ResourceId) : (resourceBytes s r).length = 16 := rfl

theorem length_patience_bytes (p : Patience) : p.bytes.length = 2 := by cases p <;> rfl

theorem length_leaseBytes (e : Engine) (k : SlotId) (rec : Record) : (leaseBytes e k rec).length ≤ longestContent := by
  unfold leaseBytes
  cases hs : rec.standing with
  | waiting p => simp [bytes2, length_patience_bytes, longestContent]
  | held h => simp [bytes2, bytes4, longestContent]
  | revoked f c => simp [bytes2, bytes4, longestContent]
  | lapsed c => simp [bytes2, longestContent]

theorem length_readAll (m : Memory) (a n : Nat) : (m.readAll a n).length = n := by
  rw [Memory.readAll, List.length_map, List.length_range]

/-! ## The rules of leases, waits and notices -/

section
variable {s : State}

theorem answers_acquireRefusal {n : Client} {r : ResourceId} {a : AcquireArgs} {refusal : Answer}
    (h : s.engine.acquireRefusal n r a = some refusal) : s.Answers (s, refusal) := by
  refine answers_reads ?_
  unfold Engine.acquireRefusal at h
  dsimp only at h
  split at h
  · cases h
    exact Nat.zero_le _
  · split at h
    · cases h
      exact Nat.zero_le _
    · split at h
      · cases h
        rename_i k _
        cases s.engine.record k with
        | none => exact (by decide : (2 : Nat) ≤ longestContent)
        | some rec => exact (by decide : (3 : Nat) ≤ longestContent)
      · split_ifs at h <;> cases h <;> exact Nat.zero_le _

theorem acquireRule_answers (n : Client) (args : List Byte) : s.Answers (acquireRule n args s) := by
  unfold acquireRule
  split
  · exact answers_bare _
  · rename_i a _
    refine withResource_answers fun r => ?_
    dsimp only
    split
    · exact answers_acquireRefusal ‹_›
    · split
      · exact answers_bare _
      · rename_i k _
        split
        · split
          · exact answers_engine (inPlace_exhaust s.engine r).keepsSessions (Nat.zero_le _)
          · exact answers_engine (keepsSessions_create (s.engine.joinHolders r a.mode) k _)
              (by decide : (9 : Nat) ≤ longestContent)
        · refine answers_engine (keepsSessions_join s.engine n r a k) ?_
          simp [handleBytes, bytes2, length_patience_bytes, longestContent]

theorem renewRule_answers (n : Client) (args : List Byte) : s.Answers (renewRule n args s) := by
  have hheld : ∀ h : Held, (heldContent h).length ≤ longestContent := fun h => by rw [length_heldContent]; decide
  unfold renewRule
  split
  · exact answers_bare _
  · refine withHandle_answers fun k rec => ?_
    split
    · split
      · exact answers_reads (hheld _)
      · exact answers_engine (fun _ => ⟨rfl, rfl⟩) (hheld _)
    · exact answers_bare _
    · exact answers_tombstone _ _
    · exact answers_tombstone _ _

theorem releaseRule_answers (n : Client) (args : List Byte) : s.Answers (releaseRule n args s) := by
  refine withHandle_answers fun k rec => ?_
  split
  · exact answers_engine (keepsSessions_vacate (inPlace_depart s.engine _ _) k _) (Nat.zero_le _)
  · exact answers_bare _
  · exact answers_engine (keepsSessions_freeSlot s.engine k) (by decide : (1 : Nat) ≤ longestContent)
  · exact answers_bare _

theorem cancelRule_answers (n : Client) (args : List Byte) : s.Answers (cancelRule n args s) := by
  refine withHandle_answers fun k rec => ?_
  split
  · exact answers_engine (keepsSessions_vacate (inPlace_leaveQueue s.engine _ k) k _) (Nat.zero_le _)
  · exact answers_bare _
  · exact answers_bare _
  · exact answers_engine (keepsSessions_freeSlot s.engine k) (by decide : (1 : Nat) ≤ longestContent)

theorem forceRevokeRule_answers (args : List Byte) : s.Answers (forceRevokeRule args s) := by
  refine withHandle_answers fun k rec => ?_
  split
  · exact answers_engine ((inPlace_revoke s.engine k _).trans (inPlace_admission _ _)).keepsSessions
      (by decide : (5 : Nat) ≤ longestContent)
  · exact answers_engine ((inPlace_lapse s.engine k _).trans (inPlace_admission _ _)).keepsSessions
      (by decide : (1 : Nat) ≤ longestContent)
  · exact answers_bare _
  · exact answers_bare _

theorem scanRule_answers (n : Client) (args : List Byte) : s.Answers (scanRule n args s) := by
  unfold scanRule
  dsimp only
  split
  · exact answers_reads (by decide : (1 : Nat) ≤ longestContent)
  · rename_i k _
    refine answers_reads ?_
    cases s.engine.record k with
    | none => exact (by decide : (3 : Nat) ≤ longestContent)
    | some rec => exact (by decide : (7 : Nat) ≤ longestContent)

theorem ackRule_answers (n : Client) (args : List Byte) : s.Answers (ackRule n args s) := by
  unfold ackRule
  split
  · exact answers_bare _
  · refine withHandle_answers fun k rec => ?_
    dsimp only
    split
    · exact answers_engine (keepsSessions_freeSlot s.engine k) (by decide : (4 : Nat) ≤ longestContent)
    · exact answers_engine (fun _ => ⟨rfl, rfl⟩) (by decide : (4 : Nat) ≤ longestContent)

theorem queryLeaseRule_answers (owner : Option Client) (args : List Byte) :
    s.Answers (queryLeaseRule owner args s) :=
  withHandle_answers fun k rec => answers_reads (length_leaseBytes s.engine k rec)

theorem queryResourceRule_answers (args : List Byte) : s.Answers (queryResourceRule args s) :=
  withResource_answers fun r => answers_reads (by rw [length_resourceBytes]; decide)

theorem checkFenceRule_answers (args : List Byte) : s.Answers (checkFenceRule args s) :=
  withResource_answers fun _ => answers_reads (by decide : (4 : Nat) ≤ longestContent)

theorem statusRule_answers (n : Client) (args : List Byte) : s.Answers (statusRule n args s) :=
  answers_reads (by decide : (6 : Nat) ≤ longestContent)

/-! ## The rules of configuration and of the fault summary -/

theorem defineResourceRule_answers (args : List Byte) : s.Answers (defineResourceRule args s) := by
  unfold defineResourceRule
  split
  · exact answers_bare _
  · refine withResource_answers fun r => ?_
    split
    · exact answers_engine (fun _ => ⟨rfl, rfl⟩) (by rw [length_definition_bytes]; decide)
    · exact answers_bare _

theorem readDefinitionRule_answers (args : List Byte) : s.Answers (readDefinitionRule args s) :=
  withResource_answers fun _ => answers_reads (by rw [length_definition_bytes]; decide)

theorem setProfileRule_answers (args : List Byte) : s.Answers (setProfileRule args s) := by
  unfold setProfileRule
  split
  · dsimp only
    split
    · exact answers_bare _
    · split
      · exact answers_bare _
      · exact answers_engine (keepsSessions_rerunBands (s.engine.setProfile _ _) _) (Nat.zero_le _)
  · exact answers_bare _

theorem readProfileRule_answers (args : List Byte) : s.Answers (readProfileRule args s) := by
  unfold readProfileRule
  split
  · exact answers_reads (by rw [length_profile_bytes]; decide)
  · exact answers_bare _

theorem liftRule_answers (args : List Byte) : s.Answers (liftRule args s) := by
  refine withResource_answers fun r => ?_
  split
  · exact answers_engine ((inPlace_setState s.engine r .free).trans (inPlace_admission _ r)).keepsSessions
      (by decide : (1 : Nat) ≤ longestContent)
  · exact answers_bare _

theorem takeOfflineRule_answers (args : List Byte) : s.Answers (takeOfflineRule args s) := by
  unfold takeOfflineRule
  split
  · exact answers_bare _
  · refine withResource_answers fun r => ?_
    dsimp only
    split
    · exact answers_bare _
    · split
      · exact answers_reads (by decide : (2 : Nat) ≤ longestContent)
      · exact answers_engine (inPlace_takeDown s.engine r).keepsSessions (by decide : (2 : Nat) ≤ longestContent)

theorem bringOnlineRule_answers (args : List Byte) : s.Answers (bringOnlineRule args s) := by
  refine withResource_answers fun r => ?_
  dsimp only
  split
  · exact answers_bare _
  · split
    · exact answers_bare _
    · split
      · exact answers_bare _
      · exact answers_engine ((inPlace_setRun s.engine r _).trans (inPlace_admission _ r)).keepsSessions (Nat.zero_le _)

theorem partStatusRule_answers (args : List Byte) : s.Answers (partStatusRule args s) := by
  unfold partStatusRule
  split
  · exact answers_bare _
  · exact ⟨rfl, fun _ => ⟨rfl, rfl⟩, (by decide : (7 : Nat) ≤ longestContent)⟩

theorem querySessionRule_answers (args : List Byte) : s.Answers (querySessionRule args s) :=
  withClient_answers fun _ => answers_reads (by decide : (7 : Nat) ≤ longestContent)

theorem readStagingRule_answers (args : List Byte) : s.Answers (readStagingRule args s) := by
  unfold readStagingRule
  dsimp only
  split
  · exact answers_bare _
  · refine answers_reads ?_
    rw [length_readAll, longestContent]
    omega

theorem bankStatusRule_answers (args : List Byte) : s.Answers (bankStatusRule args s) :=
  answers_reads (by decide : (5 : Nat) ≤ longestContent)

end

end Sys2Proof.Machine
end

section
/-! PROOF. From every lawful state a step leaves a valid configuration and a consistent part state: quotas, divider,
part state, clock and heartbeats, command by command (R64 to R68, R117, R129, R130, R133, R167, R170). -/

namespace Sys2Proof.Machine

/-! ## The laws, taken together -/

/-- The laws of configuration and part state, but for definitions and profiles, which the lease engine's own laws
carry. -/
structure State.Steady (s : State) : Prop where
  quotas : ∀ n, 1 ≤ (s.engine.session n).quota ∧ (s.engine.session n).quota ≤ 64
  divider : Config.dividerMin ≤ s.divider ∧ s.divider ≤ 65535
  phase : s.phaseLaw
  rest : s.restLaw
  clock : s.clockLaw
  heartbeats : s.heartbeatLaw

theorem steady_of_lawful {s : State} (h : s.lawful) : s.Steady := by
  obtain ⟨-, ⟨-, -, hquotas, hdivider⟩, hphase, hrest, hclock, hheartbeats, -⟩ := h
  exact ⟨hquotas, hdivider, hphase, hrest, hclock, hheartbeats⟩

/-- Three reasons of which exactly one stands under `p`, and none without it. -/
theorem reasons_of_count {a b c : Bool} {p : Prop} [Decidable p]
    (h : a.toNat + b.toNat + c.toNat = if p then 1 else 0) :
    (a = true → p ∧ b = false ∧ c = false) ∧ (b = true → p ∧ a = false ∧ c = false) ∧
    (c = true → p ∧ a = false ∧ b = false) ∧ (¬ p → a = false ∧ b = false ∧ c = false) := by
  by_cases hp : p <;> revert h <;> cases a <;> cases b <;> cases c <;> simp [hp]

/-- What the rules of a request may take for granted: ARB hands nothing in STARTING, and in SAFE only requests that
leave the lease table alone (R156, R159, R168). -/
abbrev State.working (s : State) : Prop := ¬ (s.part = .starting ∨ s.part = .safe)

section
variable {s : State}

theorem State.Steady.pos_divider (h : s.Steady) : 0 < s.divider := Nat.lt_of_lt_of_le (by decide) h.divider.1

theorem State.Steady.of_load (h : s.Steady) (hl : s.load.isSome = true) :
    s.part = .starting ∧ s.restarting = false ∧ s.resetPin = false := (reasons_of_count h.phase).1 hl

theorem State.Steady.of_restarting (h : s.Steady) (hr : s.restarting = true) :
    s.part = .starting ∧ s.load.isSome = false ∧ s.resetPin = false := (reasons_of_count h.phase).2.1 hr

theorem State.Steady.of_pin (h : s.Steady) (hp : s.resetPin = true) : s.part = .starting :=
  ((reasons_of_count h.phase).2.2.1 hp).1

theorem State.Steady.no_reason (h : s.Steady) (hp : s.part ≠ .starting) :
    s.load.isSome = false ∧ s.restarting = false ∧ s.resetPin = false := (reasons_of_count h.phase).2.2.2 hp

/-! ## Operations of which the laws say nothing -/

theorem State.Steady.settle (h : s.Steady) : s.settle.Steady :=
  ⟨h.quotas, h.divider, h.phase, h.rest, h.clock, h.heartbeats⟩

theorem State.Steady.serve (h : s.Steady) (n : Client) : (s.serve n).Steady :=
  ⟨h.quotas, h.divider, h.phase, h.rest, h.clock, h.heartbeats⟩

theorem State.Steady.placeClient (h : s.Steady) (n : Client) (k : ClientKind) (a : Answer) :
    (s.placeClient n k a).Steady := ⟨h.quotas, h.divider, h.phase, h.rest, h.clock, h.heartbeats⟩

theorem State.Steady.placeMgmt (h : s.Steady) (k : MgmtKind) (a : Answer) : (s.placeMgmt k a).Steady :=
  ⟨h.quotas, h.divider, h.phase, h.rest, h.clock, h.heartbeats⟩

theorem State.Steady.setImages (h : s.Steady) (x : ImageStore) : (s.setImages x).Steady :=
  ⟨h.quotas, h.divider, h.phase, h.rest, h.clock, h.heartbeats⟩

/-! ## Operations on the lease engine -/

theorem State.Steady.setEngine {e : Engine} (h : s.Steady) (hk : s.engine.KeepsSessions e)
    (he : s.part = .starting ∨ s.part = .safe → s.engine.empty → e.empty) : (s.setEngine e).Steady := by
  refine ⟨fun n => ?_, h.divider, h.phase, fun hp => ?_, h.clock, fun n hn => ?_⟩
  · rw [State.setEngine_engine, (hk n).2]
    exact h.quotas n
  · obtain ⟨hempty, hclosed⟩ := h.rest hp
    exact ⟨he hp hempty, fun n => (hk n).1.trans (hclosed n)⟩
  · rw [State.setEngine_engine, (hk n).1] at hn
    exact h.heartbeats n hn

theorem Engine.InPlace.empty {e e' : Engine} (h : e.InPlace e') (he : e.empty) : e'.empty := fun k =>
  Option.not_isSome_iff_eq_none.mp (by rw [h.isSome k, he k]; exact nofun)

theorem State.Steady.inPlace {e : Engine} (h : s.Steady) (hp : s.engine.InPlace e) : (s.setEngine e).Steady :=
  h.setEngine hp.keepsSessions fun _ => hp.empty

theorem State.Steady.setFaults (h : s.Steady) (f : Faults) : (s.setFaults f).Steady := h.inPlace (.of_eq rfl rfl)

/-- A rule that changes the lease engine alone, in a part state in which the table need not be empty. -/
theorem State.Steady.answers {out : State × Answer} (h : s.Steady) (ha : s.Answers out) (hw : s.working) :
    out.1.Steady := by
  rw [ha.frame]
  exact h.setEngine ha.sessions fun hp => absurd hp hw

/-- A session set, its client's heartbeat cleared (R122, R124). -/
theorem State.Steady.setSession (h : s.Steady) (hw : s.working) {n : Client} {e : Engine}
    (hq : ∀ m, (e.session m).quota = (s.engine.session m).quota)
    (hst : ∀ m, m ≠ n → (e.session m).state = (s.engine.session m).state) :
    ((s.setEngine e).setHeartbeat n .cleared).Steady := by
  obtain ⟨hrun, huntaken, helapsed, hfrozen⟩ := h.clock
  refine ⟨fun m => ?_, h.divider, h.phase, fun hp => absurd hp hw, ⟨hrun, huntaken, helapsed, fun hp => ?_⟩,
    fun m hm => ?_⟩
  · change 1 ≤ (e.session m).quota ∧ (e.session m).quota ≤ 64
    rw [hq]
    exact h.quotas m
  · obtain ⟨hz, hu, hsample⟩ := hfrozen hp
    refine ⟨hz, hu, fun m => ?_⟩
    rw [State.heartbeat_setHeartbeat]
    split
    · exact ⟨rfl, rfl⟩
    · exact hsample m
  · rw [State.heartbeat_setHeartbeat]
    split
    · exact ⟨rfl, rfl⟩
    · rename_i hne
      have hm : (e.session m).state ≠ .opened := hm
      rw [hst m (Ne.symm hne)] at hm
      exact h.heartbeats m hm

/-! ## The rules that do more than change the lease engine -/

theorem keepsSessions_endSession (e : Engine) (n : Client) : e.KeepsSessions (e.endSession n) := fun m => by
  obtain ⟨hothers, c, hc⟩ := changesCountOf_endSession e n
  by_cases hm : m = n
  · rw [hm, hc]
    exact ⟨rfl, rfl⟩
  · rw [hothers m hm]
    exact ⟨rfl, rfl⟩

theorem keepsSessions_barSession (e : Engine) (n : Client) : e.KeepsSessions (e.barSession n) := fun m => by
  obtain ⟨hothers, c, hc⟩ := changesCountOf_barSession e n
  by_cases hm : m = n
  · rw [hm, hc]
    exact ⟨rfl, rfl⟩
  · rw [hothers m hm]
    exact ⟨rfl, rfl⟩

/-- The session of `n` given a state, after an operation that keeps every session. -/
theorem State.Steady.setSessionState {e : Engine} (h : s.Steady) (hw : s.working) (hk : s.engine.KeepsSessions e)
    (n : Client) (st : SessionState) : ((s.setEngine (e.setSessionState n st)).setHeartbeat n .cleared).Steady := by
  refine h.setSession hw (fun m => ?_) fun m hm => ?_
  · rw [Engine.setSessionState, Engine.session_setSession]
    split
    · rename_i hnm
      rw [← hnm]
      exact (hk n).2
    · exact (hk m).2
  · rw [Engine.setSessionState, Engine.session_setSession, if_neg (Ne.symm hm)]
    exact (hk m).1

theorem State.Steady.endSession (h : s.Steady) (hw : s.working) (n : Client) : (s.endSession n).Steady :=
  h.setSession hw (fun m => (keepsSessions_endSession s.engine n m).2) fun m _ =>
    (keepsSessions_endSession s.engine n m).1

theorem State.Steady.startSession (h : s.Steady) (hw : s.working) (n : Client) : (s.startSession n).Steady := by
  refine h.setSession hw (fun m => ?_) fun m hm => ?_
  · rw [Engine.session_setSession]
    split
    · rename_i hnm
      rw [← hnm]
    · rfl
  · rw [Engine.session_setSession, if_neg (Ne.symm hm)]

theorem openRule_steady (h : s.Steady) (hw : s.working) (n : Client) (args : List Byte) :
    (openRule n args s).1.Steady := by
  unfold openRule
  split
  · exact h.startSession hw n
  · exact (h.endSession hw n).startSession hw n
  · exact h

theorem closeRule_steady (h : s.Steady) (hw : s.working) (n : Client) (args : List Byte) :
    (closeRule n args s).1.Steady := h.setSessionState hw (keepsSessions_endSession s.engine n) n .closed

theorem barRule_steady (h : s.Steady) (hw : s.working) (args : List Byte) : (barRule args s).1.Steady := by
  unfold barRule State.withClient
  split
  · dsimp only
    split
    · exact h
    · exact h.setSessionState hw (keepsSessions_barSession s.engine _) _ .barred
  · exact h

/-- A client that is not OPEN has its heartbeat cleared already. -/
theorem unbarRule_steady (h : s.Steady) (hw : s.working) (args : List Byte) : (unbarRule args s).1.Steady := by
  unfold unbarRule State.withClient
  split
  · rename_i hn
    generalize (⟨argByte args 0, hn⟩ : Client) = n
    dsimp only
    split
    · rename_i hbarred
      refine ⟨fun m => ?_, h.divider, h.phase, fun hp => absurd hp hw, h.clock, fun m hm => h.heartbeats m ?_⟩
      · rw [State.setEngine_engine, Engine.setSessionState, Engine.session_setSession]
        split
        · exact h.quotas n
        · exact h.quotas m
      · rw [State.setEngine_engine, Engine.setSessionState, Engine.session_setSession] at hm
        split at hm
        · rename_i hnm
          rw [← hnm, hbarred]
          exact nofun
        · exact hm
    · exact h
  · exact h

theorem setQuotaRule_steady (h : s.Steady) (hw : s.working) (args : List Byte) : (setQuotaRule args s).1.Steady := by
  unfold setQuotaRule State.withClient
  split
  · rename_i hn
    generalize (⟨argByte args 0, hn⟩ : Client) = n
    dsimp only
    split
    · rename_i hrange
      refine ⟨fun m => ?_, h.divider, h.phase, fun hp => absurd hp hw, h.clock, fun m hm => h.heartbeats m ?_⟩
      · rw [State.setEngine_engine, Engine.session_setSession]
        split
        · exact hrange
        · exact h.quotas m
      · rw [State.setEngine_engine, Engine.session_setSession] at hm
        split at hm
        · rename_i hnm
          rw [← hnm]
          exact hm
        · exact hm
    · exact h
  · exact h

/-- In MAINTENANCE TGEN's period is discarded, so that any divider is beyond it (R65, R175). -/
theorem setDividerRule_steady (h : s.Steady) (hp : s.part = .maintenance) (args : List Byte) :
    (setDividerRule args s).1.Steady := by
  unfold setDividerRule
  dsimp only
  split
  · exact h
  · rename_i hv
    have hmin : Config.dividerMin ≤ argWord args 0 := Nat.not_lt.mp hv
    obtain ⟨hrun, huntaken, -, hfrozen⟩ := h.clock
    have hzero : s.elapsed = 0 := (hfrozen (by rw [hp]; exact nofun)).1
    refine ⟨h.quotas, ⟨hmin, Nat.le_of_lt_succ (argWord_lt args 0)⟩, h.phase, h.rest,
      ⟨hrun, huntaken, ?_, hfrozen⟩, h.heartbeats⟩
    exact hzero.trans_lt (Nat.lt_of_lt_of_le (by decide) hmin)

/-- SET HEARTBEAT is taken of an OPEN session in SERVICE alone (R119, R156). -/
theorem setHeartbeatRule_steady (h : s.Steady) (hp : s.part = .service) {n : Client}
    (ho : (s.engine.session n).state = .opened) (args : List Byte) : (setHeartbeatRule n args s).1.Steady := by
  unfold setHeartbeatRule
  split
  · exact h
  · obtain ⟨hrun, huntaken, helapsed, -⟩ := h.clock
    refine ⟨h.quotas, h.divider, h.phase, h.rest, ⟨hrun, huntaken, helapsed, fun hno => absurd hp hno⟩, fun m hm => ?_⟩
    have hnm : n ≠ m := fun hnm => hm (hnm ▸ ho)
    rw [State.heartbeat_setHeartbeat, if_neg hnm]
    exact h.heartbeats m hm

theorem enterMaintenanceRule_steady (h : s.Steady) (hw : s.working) (args : List Byte) :
    (enterMaintenanceRule args s).1.Steady := by
  have hno := h.no_reason fun hp => hw (.inl hp)
  have hheartbeat : ∀ n, (enterMaintenanceRule args s).1.heartbeat n =
      { s.heartbeat n with previous := .invalid, renewalPending := false } := fun n => Table.get_tab _ _
  refine ⟨h.quotas, h.divider, ?_, nofun,
    ⟨⟨nofun, nofun⟩, Nat.zero_le _, h.pos_divider, fun _ => ⟨rfl, rfl, fun n => ?_⟩⟩, fun n hn => ?_⟩
  · change s.load.isSome.toNat + s.restarting.toNat + s.resetPin.toNat = 0
    rw [hno.1, hno.2.1, hno.2.2]
    rfl
  · rw [hheartbeat]
    exact ⟨rfl, rfl⟩
  · rw [hheartbeat]
    exact ⟨(h.heartbeats n hn).1, rfl⟩

/-- TGEN starts a fresh period where the part enters SERVICE (R65), no reason for STARTING standing any more. -/
theorem State.Steady.enterService (h : s.Steady) {restarting : Bool} (hl : s.load.isSome = false)
    (hr : restarting = false) (hp : s.resetPin = false) :
    State.Steady { s.enterService with restarting := restarting } := by
  obtain ⟨-, huntaken, -⟩ := h.clock
  refine ⟨h.quotas, h.divider, ?_, nofun,
    ⟨⟨fun _ => rfl, fun _ => rfl⟩, huntaken, h.pos_divider, fun hno => absurd rfl hno⟩, h.heartbeats⟩
  change s.load.isSome.toNat + restarting.toNat + s.resetPin.toNat = 0
  rw [hl, hr, hp]
  rfl

theorem leaveMaintenanceRule_steady (h : s.Steady) (hw : s.working) (args : List Byte) :
    (leaveMaintenanceRule args s).1.Steady := by
  obtain ⟨hl, hr, hp⟩ := h.no_reason fun hp => hw (.inl hp)
  exact h.enterService hl hr hp

/-- A part whose blocks are cleared and whose table is empty, in STARTING or in SAFE. -/
theorem steady_of_cleared {t : State} (hq : ∀ n, 1 ≤ (t.engine.session n).quota ∧ (t.engine.session n).quota ≤ 64)
    (hd : Config.dividerMin ≤ t.divider ∧ t.divider ≤ 65535) (hphase : t.phaseLaw) (hempty : t.engine.empty)
    (hclosed : ∀ n, (t.engine.session n).state = .closed) (hrun : t.running = false) (hpart : t.part ≠ .service)
    (hu : t.untaken = 0) (hz : t.elapsed = 0) (hhb : t.heartbeats = Table.fill 6 .cleared) : t.Steady := by
  have hheartbeat : ∀ n, t.heartbeat n = .cleared := fun n => by rw [State.heartbeat, hhb, Table.get_fill]
  refine ⟨hq, hd, hphase, fun _ => ⟨hempty, hclosed⟩, ⟨?_, ?_, ?_, fun _ => ⟨hz, hu, fun n => ?_⟩⟩, fun n _ => ?_⟩
  · exact ⟨fun hr => absurd (hrun.symm.trans hr) nofun, fun hp => absurd hp hpart⟩
  · rw [hu]
    exact Nat.zero_le _
  · rw [hz]
    exact Nat.lt_of_lt_of_le (by decide) hd.1
  · rw [hheartbeat]
    exact ⟨rfl, rfl⟩
  · rw [hheartbeat]
    exact ⟨rfl, rfl⟩

theorem emptied_empty (e : Engine) : e.emptied.empty := empty_of_freed (slot_emptied e)

theorem enterSafeRule_steady (h : s.Steady) (hw : s.working) (args : List Byte) :
    (enterSafeRule args s).1.Steady := by
  obtain ⟨hl, hr, hp⟩ := h.no_reason fun hp => hw (.inl hp)
  refine steady_of_cleared (fun n => ?_) h.divider ?_ (emptied_empty _) (fun n => ?_) rfl nofun rfl rfl rfl
  · change 1 ≤ (s.engine.emptied.session n).quota ∧ (s.engine.emptied.session n).quota ≤ 64
    rw [session_emptied]
    exact h.quotas n
  · change s.load.isSome.toNat + s.restarting.toNat + s.resetPin.toNat = 0
    rw [hl, hr, hp]
    rfl
  · change (s.engine.emptied.session n).state = .closed
    rw [session_emptied]

/-! ## Requests -/

/-- A rule that only reads. -/
theorem State.Steady.reads {out : State × Answer} (h : s.Steady) (ha : s.Answers out)
    (he : out.1.engine = s.engine) : out.1.Steady := by
  rw [ha.frame, he]
  exact h

theorem takeClient_steady {k : ClientKind} {n : Client} {rule : List Byte → State → State × Answer} (h : s.Steady)
    (hrule : ∀ q, q.kind = k → s.clientRefusal n q = none → s.part ≠ .starting →
      (rule q.args (s.serve n)).1.Steady) : (s.takeClient k n rule).Steady := by
  by_cases hh : s.handed = some (k.command n)
  · obtain ⟨q, hq, hk⟩ := handed_request hh
    rw [takeClient_handed hh hq]
    cases hr : s.clientRefusal n q with
    | none =>
      rw [answerClient_passed hr]
      exact ((hrule q hk hr (part_of_handed hh)).placeClient n _ _).settle
    | some st =>
      rw [answerClient_refused hr]
      exact ((h.serve n).placeClient n _ _).settle
  · rw [takeClient_not_handed hh]
    exact h

/-- In SAFE every client request but STATUS is refused (R156). -/
theorem working_of_not_refused {n : Client} {q : Request ClientKind} (hk : q.kind ≠ .status)
    (hr : s.clientRefusal n q = none) (hp : s.part ≠ .starting) : s.working := by
  rintro (hs | hs)
  · exact hp hs
  · rw [clientRefusal_gated (st := .safe) (by rw [hs, ClientKind.gate, if_neg hk])] at hr
    exact absurd hr nofun

theorem service_of_setHeartbeat {n : Client} {q : Request ClientKind} (hk : q.kind = .setHeartbeat)
    (hr : s.clientRefusal n q = none) (hp : s.part ≠ .starting) : s.part = .service := by
  cases hs : s.part with
  | service => rfl
  | starting => exact absurd hs hp
  | maintenance =>
    rw [clientRefusal_gated (st := .maintenance) (by rw [hs, hk]; rfl)] at hr
    exact absurd hr nofun
  | safe =>
    rw [clientRefusal_gated (st := .safe) (by rw [hs, hk]; rfl)] at hr
    exact absurd hr nofun

theorem exec_client_steady {t : State} (h : s.Steady) {k : ClientKind} {n : Client}
    (hx : exec (k.command n) s = .next t) : t.Steady := by
  have hn := h.serve n
  cases k <;> cases hx <;> refine takeClient_steady h fun q hk hr hp => ?_
  case status => exact hn
  case setHeartbeat =>
    exact setHeartbeatRule_steady hn (service_of_setHeartbeat hk hr hp)
      (opened_of_not_refused (by rw [hk]; rfl) hr) _
  all_goals have hw : (s.serve n).working := working_of_not_refused (by rw [hk]; exact nofun) hr hp
  case openSession => exact openRule_steady hn hw n _
  case closeSession => exact closeRule_steady hn hw n _
  case acquire => exact hn.answers (acquireRule_answers n _) hw
  case renew => exact hn.answers (renewRule_answers n _) hw
  case release => exact hn.answers (releaseRule_answers n _) hw
  case cancel => exact hn.answers (cancelRule_answers n _) hw
  case scan => exact hn.answers (scanRule_answers n _) hw
  case ack => exact hn.answers (ackRule_answers n _) hw
  case queryLease => exact hn.answers (queryLeaseRule_answers _ _) hw
  case queryResource => exact hn.answers (queryResourceRule_answers _) hw
  case checkFence => exact hn.answers (checkFenceRule_answers _) hw

/-- No two management requests are the same row. -/
theorem mgmtCommand_injective {k j : MgmtKind} (h : k.command = j.command) : k = j := by
  have hall : ∀ x : MgmtKind, x ∈ MgmtKind.all := fun x => by cases x <;> decide
  exact List.inj_on_of_nodup_map (f := MgmtKind.command) (l := MgmtKind.all) (by decide) (hall k) (hall j) h

/-- The management request ARB hands next stands in MPORT. -/
theorem handed_mgmtRequest {k : MgmtKind} (h : s.handed = some k.command) :
    ∃ q, s.mport.standing = .queued q ∧ q.kind = k := by
  unfold State.handed at h
  split at h
  · exact absurd h nofun
  · split at h
    · exact absurd (Option.some.inj h) (by cases k <;> exact nofun)
    · split at h
      · exact ⟨_, ‹_›, mgmtCommand_injective (Option.some.inj h)⟩
      · obtain ⟨n, -, hn⟩ := List.exists_of_findSome?_eq_some h
        exact absurd hn (clientItem_ne (requestOf_mgmt k) (fun m => by cases k <;> exact nofun) n)

theorem takeMgmt_steady {k : MgmtKind} {rule : List Byte → State → State × Answer} (h : s.Steady)
    (hrule : ∀ args, k.available s.part = true → s.part ≠ .starting → (rule args s).1.Steady) :
    (s.takeMgmt k rule).Steady := by
  by_cases hh : s.handed = some k.command
  · obtain ⟨q, hq, rfl⟩ := handed_mgmtRequest hh
    by_cases hav : q.kind.available s.part = true
    · rw [takeMgmt_admitted ⟨hh, hq, hav⟩]
      exact ((hrule q.args hav (part_of_handed hh)).placeMgmt _ _).settle
    · rw [takeMgmt_handed hh hq, answerMgmt_refused (Bool.eq_false_iff.mpr hav)]
      exact (h.placeMgmt _ _).settle
  · rw [takeMgmt_not_handed hh]
    exact h

/-- A request that R168 does not make available in SAFE. -/
theorem working_of_available {k : MgmtKind} (hsafe : k.available .safe = false) (hav : k.available s.part = true)
    (hp : s.part ≠ .starting) : s.working := by
  rintro (hs | hs)
  · exact hp hs
  · rw [hs, hsafe] at hav
    exact absurd hav nofun

theorem exec_mgmt_steady {t : State} (h : s.Steady) {k : MgmtKind} (hk : k ≠ .serviceReset)
    (hx : exec k.command s = .next t) : t.Steady := by
  cases k
  case serviceReset => exact absurd rfl hk
  all_goals cases hx; refine takeMgmt_steady h fun args hav hp => ?_
  case readDefinition => exact h.reads (readDefinitionRule_answers _) (readDefinitionRule_engine _)
  case readProfile => exact h.reads (readProfileRule_answers _) (readProfileRule_engine _)
  case querySession => exact h.reads (querySessionRule_answers _) (querySessionRule_engine _)
  case queryLease => exact h.reads (queryLeaseRule_answers _ _) (queryLeaseRule_engine _ _)
  case queryResource => exact h.reads (queryResourceRule_answers _) (queryResourceRule_engine _)
  case checkFence => exact h.reads (checkFenceRule_answers _) (checkFenceRule_engine _)
  case readStaging => exact h.reads (readStagingRule_answers _) (readStagingRule_engine _)
  case bankStatus => exact h
  case partStatus =>
    unfold partStatusRule
    split
    · exact h
    · exact h.setFaults _
  case capture =>
    unfold captureRule
    split
    · exact h
    · exact h.setImages _
  case writeStaging =>
    unfold writeStagingRule
    dsimp only
    split
    · exact h
    · split
      · exact h
      · exact h.setImages _
  case burn =>
    unfold burnRule
    split
    · exact h
    · split_ifs
      · exact h
      · exact h
      · exact h.setImages _
      · exact h
  case setDivider => exact setDividerRule_steady h (eq_of_beq hav) _
  all_goals have hw : s.working := working_of_available rfl hav hp
  case defineResource => exact h.answers (defineResourceRule_answers _) hw
  case setProfile => exact h.answers (setProfileRule_answers _) hw
  case setQuota => exact setQuotaRule_steady h hw _
  case bar => exact barRule_steady h hw _
  case unbar => exact unbarRule_steady h hw _
  case forceRevoke => exact h.answers (forceRevokeRule_answers _) hw
  case lift => exact h.answers (liftRule_answers _) hw
  case takeOffline => exact h.answers (takeOfflineRule_answers _) hw
  case bringOnline => exact h.answers (bringOnlineRule_answers _) hw
  case enterMaintenance => exact enterMaintenanceRule_steady h hw _
  case leaveMaintenance => exact leaveMaintenanceRule_steady h hw _
  case enterSafe => exact enterSafeRule_steady h hw _

/-! ## Ticks and renewals -/

/-- A tick counted and every line sampled; TGEN's next period begins (R64, R67, R128). -/
theorem State.Steady.produceTick (h : s.Steady) (hr : s.running = true) (hb : Vector Bool 6) :
    (s.produceTick hb).Steady := by
  have hservice : s.part = .service := h.clock.1.mp hr
  have hcount : (if s.untaken < 3 then s.untaken + 1 else s.untaken) ≤ Config.untakenMax := by
    have := h.clock.2.1
    unfold Config.untakenMax at this ⊢
    split <;> omega
  rw [State.produceTick, countTick_eq]
  refine ⟨h.quotas, h.divider, h.phase, fun hp => ?_,
    ⟨h.clock.1, hcount, h.pos_divider, fun hno => absurd hservice hno⟩, fun n hn => ?_⟩
  · change s.part = .starting ∨ s.part = .safe at hp
    rw [hservice] at hp
    exact absurd hp nofun
  · obtain ⟨hoff, hpending⟩ := h.heartbeats n hn
    have hno : ((s.engine.session n).state == .opened) = false := beq_eq_false_iff_ne.mpr hn
    have hsampled : (s.sampleHeartbeats hb).heartbeat n = (s.heartbeat n).sample false (Table.get hb n) := by
      rw [State.heartbeat, State.sampleHeartbeats, Table.get_tab, hno]
    change ((s.sampleHeartbeats hb).heartbeat n).selection = _ ∧
      ((s.sampleHeartbeats hb).heartbeat n).renewalPending = _
    rw [hsampled, Heartbeat.sample, hpending, Bool.and_false, Bool.or_false]
    exact ⟨hoff, rfl⟩

theorem State.Steady.referencePeriod (h : s.Steady) : s.referencePeriod.Steady := by
  unfold State.referencePeriod
  split
  · rename_i hr
    split
    · exact h.produceTick hr _
    · rename_i he
      obtain ⟨hrun, huntaken, -, hfrozen⟩ := h.clock
      exact ⟨h.quotas, h.divider, h.phase, h.rest,
        ⟨hrun, huntaken, Nat.not_le.mp he, fun hno => absurd (hrun.mp hr) hno⟩, h.heartbeats⟩
  · exact h

theorem State.Steady.takeTickIf (h : s.Steady) (p : Bool) : (s.takeTickIf p).Steady := by
  unfold State.takeTickIf
  split
  · obtain ⟨hquotas, hdivider, hphase, hrest, ⟨hrun, huntaken, helapsed, hfrozen⟩, hheartbeats⟩ :=
      h.inPlace (inPlace_tick s.engine)
    refine ⟨hquotas, hdivider, hphase, hrest, ⟨hrun, (Nat.sub_le _ _).trans huntaken, helapsed, fun hno => ?_⟩,
      hheartbeats⟩
    obtain ⟨hz, hu, hsample⟩ := hfrozen hno
    exact ⟨hz, (congrArg (· - 1) hu : s.untaken - 1 = 0), hsample⟩
  · exact h

theorem exec_renewAll_steady {t : State} (h : s.Steady) {n : Client} (hx : exec (.renewAll n) s = .next t) :
    t.Steady := by
  cases hx
  split
  · have hcleared : (s.setHeartbeat n { s.heartbeat n with renewalPending := false }).Steady := by
      obtain ⟨hrun, huntaken, helapsed, hfrozen⟩ := h.clock
      refine ⟨h.quotas, h.divider, h.phase, h.rest, ⟨hrun, huntaken, helapsed, fun hno => ?_⟩, fun m hm => ?_⟩
      · obtain ⟨hz, hu, hsample⟩ := hfrozen hno
        refine ⟨hz, hu, fun m => ?_⟩
        rw [State.heartbeat_setHeartbeat]
        split
        · exact ⟨(hsample n).1, rfl⟩
        · exact hsample m
      · rw [State.heartbeat_setHeartbeat]
        split
        · rename_i hnm
          exact ⟨(h.heartbeats n (hnm ▸ hm)).1, rfl⟩
        · exact h.heartbeats m hm
    exact ((hcleared.serve n).inPlace (inPlace_renewAll _ n)).settle
  · exact h

/-! ## Resets and the load -/

theorem exec_powerOnReset_steady {t : State} {straps : Fin 4} {skip : Bool}
    (hx : exec (.powerOnReset straps skip) s = .next t) : t.Steady := by
  rw [execPowerOnReset_eq] at hx
  cases hx
  have hreset := steady_of_lawful resetIsLawful
  exact ⟨hreset.quotas, hreset.divider, hreset.phase, hreset.rest, hreset.clock, hreset.heartbeats⟩

theorem exec_resetPinAssert_steady {t : State} (h : s.Steady) (hx : exec .resetPinAssert s = .next t) : t.Steady := by
  rw [execResetPinAssert_eq] at hx
  cases hx
  refine steady_of_cleared (fun n => ?_) h.divider rfl (pinReset_empty _) (fun n => ?_) rfl nofun rfl rfl rfl
  · simp only [session_pinReset]
    exact h.quotas n
  · simp only [session_pinReset]

theorem exec_resetPinRelease_steady {t : State} (h : s.Steady) {straps : Fin 4} {skip : Bool}
    (hx : exec (.resetPinRelease straps skip) s = .next t) : t.Steady := by
  cases hx
  split
  · rename_i hp
    refine ⟨h.quotas, h.divider, ?_, h.rest, h.clock, h.heartbeats⟩
    exact (if_pos (h.of_pin hp)).symm
  · exact h

theorem loadedQuota_range (image : Option Memory) (n : Client) :
    1 ≤ loadedQuota image n ∧ loadedQuota image n ≤ 64 := by
  unfold loadedQuota
  cases hq : (image.map fun m => (m.read (imageQuotas + n.val)).toNat).filter fun q => decide (1 ≤ q ∧ q ≤ 64) with
  | none => exact ⟨by decide, by decide⟩
  | some q => exact of_decide_eq_true (Option.filter_eq_some_iff.mp hq).2

theorem loadedDivider_range (image : Option Memory) :
    Config.dividerMin ≤ loadedDivider image ∧ loadedDivider image ≤ 65535 := by
  unfold loadedDivider
  cases hv : (image.map fun m => (m.read imageDivider).toNat * 256 + (m.read (imageDivider + 1)).toNat).filter
      fun v => decide (Config.dividerMin ≤ v) with
  | none => exact ⟨by decide, by decide⟩
  | some v =>
    obtain ⟨hmap, hmin⟩ := Option.filter_eq_some_iff.mp hv
    obtain ⟨m, -, rfl⟩ := Option.map_eq_some_iff.mp hmap
    have hhigh := (m.read imageDivider).isLt
    have hlow := (m.read (imageDivider + 1)).isLt
    exact ⟨of_decide_eq_true hmin, by dsimp only [Option.getD]; omega⟩

theorem session_loaded (e : Engine) (image : Option Memory) (n : Client) :
    (e.loaded image).session n = { e.session n with quota := loadedQuota image n } := by
  rw [Engine.session, Engine.loaded, Table.get_tab]

/-- A load ends in SERVICE or in SAFE, with the table as empty as STARTING keeps it (R189). -/
theorem exec_loadEnd_steady {t : State} (h : s.Steady) (hx : exec .loadEnd s = .next t) : t.Steady := by
  cases hx
  split
  · rename_i src hl
    obtain ⟨hstarting, hr, hp⟩ := h.of_load (by rw [hl]; rfl)
    obtain ⟨hempty, hclosed⟩ := h.rest (.inl hstarting)
    obtain ⟨hrun, -, -, hfrozen⟩ := h.clock
    obtain ⟨hz, hu, hsample⟩ := hfrozen (by rw [hstarting]; exact nofun)
    have hstopped : s.running = false := Bool.eq_false_iff.mpr fun hrunning =>
      absurd (hstarting.symm.trans (hrun.mp hrunning)) nofun
    have hdivider := loadedDivider_range (s.images.imageOf src)
    have hpos : 0 < loadedDivider (s.images.imageOf src) := Nat.lt_of_lt_of_le (by decide) hdivider.1
    have hsession := session_loaded s.engine (s.images.imageOf src)
    rw [finishLoad_eq]
    refine State.Steady.settle ⟨fun n => ?_, hdivider, ?_, fun _ => ⟨hempty, fun n => ?_⟩, ?_, fun n _ => ?_⟩
    · change 1 ≤ ((s.engine.loaded _).session n).quota ∧ ((s.engine.loaded _).session n).quota ≤ 64
      rw [hsession]
      exact loadedQuota_range _ n
    · by_cases hs : src = .factorySpoilt <;> simp [State.phaseLaw, hs, hr, hp]
    · change ((s.engine.loaded _).session n).state = _
      rw [hsession]
      exact hclosed n
    · by_cases hs : src = .factorySpoilt
      · simp only [State.clockLaw, hs, if_true]
        exact ⟨by simp [hstopped], by rw [hu]; exact Nat.zero_le _, by rw [hz, ← hs]; exact hpos,
          fun _ => ⟨hz, hu, hsample⟩⟩
      · simp only [State.clockLaw, hs, if_false]
        exact ⟨by simp, by rw [hu]; exact Nat.zero_le _, hpos, fun hno => absurd rfl hno⟩
    · exact ⟨(h.heartbeats n (by rw [hclosed]; exact nofun)).1, (hsample n).2⟩
  · exact h

theorem exec_serviceReset_steady {t : State} (h : s.Steady) (hx : exec .serviceReset s = .next t) : t.Steady := by
  by_cases hh : s.handed = some .serviceReset
  · obtain ⟨-, -, hp⟩ := h.no_reason (part_of_handed hh)
    rw [exec_serviceReset_handed hh] at hx
    cases hx
    have hsession : ∀ n, (s.placeMgmt .serviceReset (.bare .ok)).restart.engine.session n =
        { s.engine.session n with state := .closed, count := 0 } := fun n => by
      obtain ⟨f, hf⟩ := restart_engine (s.placeMgmt .serviceReset (.bare .ok))
      rw [hf]
      exact session_emptied _ n
    refine State.Steady.settle (steady_of_cleared (fun n => ?_) ?_ ?_ ?_ (fun n => ?_) ?_ ?_ ?_ ?_ ?_)
    · rw [hsession]
      exact h.quotas n
    · rw [restart_eq]
      exact h.divider
    · have hpin : (s.placeMgmt .serviceReset (.bare .ok)).resetPin = false := hp
      rw [restart_eq]
      simp [State.phaseLaw, hpin]
    · obtain ⟨f, hf⟩ := restart_engine (s.placeMgmt .serviceReset (.bare .ok))
      rw [hf]
      exact emptied_empty _
    · rw [hsession]
    · rfl
    · exact nofun
    · rfl
    · rfl
    · rfl
  · rw [show exec .serviceReset s = .next s from exec_mgmt_not_handed (k := .serviceReset) hh] at hx
    cases hx
    exact h

/-! ## The buses, and the end of a burn -/

theorem State.Steady.serveFetch (h : s.Steady) (n : Client) (clocked : Nat) : (s.serveFetch n clocked).Steady := by
  unfold State.serveFetch
  split
  · exact h
  · exact ⟨h.quotas, h.divider, h.phase, h.rest, h.clock, h.heartbeats⟩

theorem State.Steady.serveRequest (h : s.Steady) (n : Client) (bytes : List Byte) :
    (s.serveRequest n bytes).Steady := by
  unfold State.serveRequest
  split
  · exact h
  · exact ⟨h.quotas, h.divider, h.phase, h.rest, h.clock, h.heartbeats⟩

theorem State.Steady.mportWrite (h : s.Steady) (address : BitVec 7) (bytes : List Byte) :
    (s.mportWrite address bytes).Steady := by
  unfold State.mportWrite
  split
  · split <;> exact ⟨h.quotas, h.divider, h.phase, h.rest, h.clock, h.heartbeats⟩
  · exact ⟨h.quotas, h.divider, h.phase, h.rest, h.clock, h.heartbeats⟩

theorem State.Steady.mportRead (h : s.Steady) (address : BitVec 7) (clocked : Nat) :
    (s.mportRead address clocked).Steady := by
  unfold State.mportRead
  split <;> exact ⟨h.quotas, h.divider, h.phase, h.rest, h.clock, h.heartbeats⟩

theorem exec_burnEnd_steady {t : State} (h : s.Steady) {misread : List (Fin 512 × Byte)}
    (hx : exec (.burnEnd misread) s = .next t) : t.Steady := by
  cases hx
  split
  · exact h
  · dsimp only
    split
    · exact h.setImages _
    · exact (h.setImages _).setFaults _

/-! ## Every command -/

/-- Every command keeps the laws of quotas, divider, part state, clock and heartbeats. -/
theorem exec_steady {c : Instr} {t : State} (h : s.Steady) (hx : exec c s = .next t) : t.Steady := by
  induction c using Instr.byRow with
  | client k n => exact exec_client_steady h hx
  | mgmt k =>
    by_cases hk : k = .serviceReset
    · subst hk
      exact exec_serviceReset_steady h hx
    · exact exec_mgmt_steady h hk hx
  | renewAll n => exact exec_renewAll_steady h hx
  | requestTransaction n select bytes stray =>
    cases hx
    split_ifs
    · exact h.serveFetch n _
    · exact h.serveRequest n bytes
    · exact h
  | fetch n select clocked stray =>
    cases hx
    split
    · exact h.serveFetch n clocked
    · exact h
  | managementWrite start bytes =>
    cases hx
    split
    · exact h
    · exact h.mportWrite _ bytes
  | managementRead start clocked =>
    cases hx
    split
    · exact h
    · exact h.mportRead _ clocked
  | restartComplete =>
    cases hx
    split
    · obtain ⟨-, hl, hp⟩ := h.of_restarting (And.right ‹_›)
      exact (h.enterService hl rfl hp).settle
    · exact h
  | burnEnd misread => exact exec_burnEnd_steady h hx
  | tick hb =>
    cases hx
    split
    · exact h.produceTick ‹_› hb
    · exact h
  | tickTaken => cases hx; exact h.takeTickIf _
  | lapse k => cases hx; exact h.takeTickIf _
  | expiry k => cases hx; exact h.takeTickIf _
  | quarantineEnd r => cases hx; exact h.takeTickIf _
  | powerOnReset straps skip => exact exec_powerOnReset_steady hx
  | resetPinAssert => exact exec_resetPinAssert_steady h hx
  | resetPinRelease straps skip => exact exec_resetPinRelease_steady h hx
  | loadEnd => exact exec_loadEnd_steady h hx

end

/-- What every command keeps, and a reference period, a step keeps. -/
theorem step_keeps {P : State → Prop} {s t : State} (hstep : step s = .next t)
    (hpending : ∀ rest, P { s with pending := rest }) (hperiod : P s → P s.referencePeriod)
    (hexec : ∀ (c : Instr) (u v : State), P u → exec c u = .next v → P v) : P t := by
  have h : P s := hpending s.pending
  unfold step at hstep
  split at hstep
  · unfold idle at hstep
    split at hstep
    · exact hexec _ _ _ h hstep
    · cases hstep
      exact hperiod h
  · exact hexec _ _ _ (hpending _) hstep

theorem step_steady {s t : State} (h : s.Steady) (hstep : step s = .next t) : t.Steady :=
  step_keeps hstep (fun _ => ⟨h.quotas, h.divider, h.phase, h.rest, h.clock, h.heartbeats⟩)
    (fun h => h.referencePeriod) fun _ _ _ h hx => exec_steady h hx

/-- Definitions and profiles stay valid (R26, R88). -/
theorem step_valid {s t : State} (h : s.lawful) (hstep : step s = .next t) :
    (∀ r, (t.engine.defn r).valid r = true) ∧ ∀ p, (Table.get t.engine.profiles p).valid = true := by
  rcases step_yields hstep with ⟨who, hy⟩ | hreset
  · have hsound := hy.sound (lawful_sound h) (lawful_empty_of_load h)
    exact ⟨hsound.defns, hsound.profiles⟩
  · obtain ⟨-, ⟨hdefns, hprofiles, -⟩, -⟩ := resetIsLawful
    rw [hreset]
    exact ⟨hdefns, hprofiles⟩

/-- Settles O55: the steady laws command by command, definitions and profiles by the laws of the lease engine. -/
theorem everyStepKeepsTheConfigurationAndPartStateLaws :
    Obligations.EveryStepKeepsTheConfigurationAndPartStateLaws := by
  intro s t h hstep
  obtain ⟨hdefns, hprofiles⟩ := step_valid h hstep
  obtain ⟨hquotas, hdivider, hphase, hrest, hclock, hheartbeats⟩ := step_steady (steady_of_lawful h) hstep
  exact ⟨⟨hdefns, hprofiles, hquotas, hdivider⟩, hphase, hrest, hclock, hheartbeats⟩

end Sys2Proof.Machine
end

section
/-! PROOF. From every lawful state a step leaves the output lines, the attention lines, the ports, the buffers and the
banks as the rules give them (R38, R39, R139, R149, R151, R153, R179, R183, R185). -/

namespace Sys2Proof.Machine

/-! ## Lines and attention lines (R38, R139) -/

theorem linesOf_eq (s : State) (n : Fin 16) : Table.get s.linesOf n = s.lineByRule n := by
  rw [State.linesOf, Table.get_tab]
  unfold lineLevel State.lineByRule
  generalize s.engine.defn (lineResource n) = d
  cases hd : d.defined with
  | false => simp [hd]
  | true =>
    cases hk : d.kind with
    | token => simp [hk]
    | line => cases s.part <;> cases s.restarting <;> simp [hd, hk, Definition.safeLevel, Definition.grantedLevel]

/-- The end of a happening sets both kinds of lines from the state it leaves (R39). -/
theorem settle_outputLaw (s : State) : s.settle.outputLaw :=
  ⟨linesOf_eq s, fun n => by
    rw [show Table.get s.settle.attention n = s.engine.hasNotice n from Table.get_tab _ _]
    exact hasNotice_iff s.engine n⟩

/-! ## Ports (R149, R151, R153) -/

theorem getD_checkByte (l : List Byte) (c : Byte) : (l ++ [c]).getD l.length 0 = c := by
  rw [List.getD_append_right _ _ _ _ le_rfl, Nat.sub_self, List.getD_cons_zero]

/-- A response whose content fits is framed as 12.3 says. -/
theorem framed_response (overlap prior : Bool) (kind : Byte) {a : Answer} (h : a.content.length ≤ longestContent) :
    framed (response overlap prior kind a) = true := by
  have hlen : (response overlap prior kind a).length = 5 + a.content.length := by
    simp only [response, List.length_append, List.length_cons, List.length_nil]
    omega
  have hbyte : (byte (5 + a.content.length)).toNat = 5 + a.content.length :=
    Nat.mod_eq_of_lt (by unfold longestContent at h; omega)
  rw [framed, Bool.and_eq_true, decide_eq_true_eq, beq_iff_eq, hlen]
  refine ⟨⟨Nat.le_add_right _ _, by unfold longestContent at h; omega, hbyte⟩, ?_⟩
  have hbody : 5 + a.content.length - 1 = (a.status.code :: flagByte overlap prior :: kind ::
      byte (5 + a.content.length) :: a.content).length := by
    simp only [List.length_cons]
    omega
  rw [response, hbody, getD_checkByte, List.take_left]

theorem Port.sound_place {κ : Type} (p : Port κ) (kind : Byte) {a : Answer} (h : a.content.length ≤ longestContent) :
    (p.place kind a).sound = true := framed_response _ _ kind h

theorem Port.sound_deliver {κ : Type} (p : Port κ) (header : Byte) (c : Checked κ) :
    (p.deliver header c).sound = true := by
  unfold Port.deliver
  split
  · rfl
  · exact Port.sound_place _ header (Nat.zero_le _)
  · rename_i hq
    simp [Port.sound, hq]
  · rfl
  · exact Port.sound_place _ header (Nat.zero_le _)

theorem Port.sound_afterFetch {κ : Type} {p : Port κ} (h : p.sound = true) (n : Nat) :
    (p.afterFetch n).sound = true := by
  unfold Port.afterFetch
  split
  · rename_i resp hs
    split
    · rw [Port.sound, hs] at h
      simp only [Bool.and_eq_true] at h
      simp [Port.sound, h.1.1, h.1.2]
    · exact h
  · exact h

theorem portLaw_setPort {s : State} (h : s.portLaw) {n : Client} {p : Port ClientKind} (hp : p.sound = true) :
    (s.setPort n p).portLaw :=
  ⟨fun m => by
    rw [State.port_setPort]
    split
    · exact hp
    · exact h.1 m, h.2⟩

theorem portLaw_cleared {s : State} (hp : s.ports = Table.fill 6 .cleared) (hm : s.mport.sound = true) : s.portLaw :=
  ⟨fun n => by rw [State.port, hp, Table.get_fill]; rfl, hm⟩

/-! ## The image store (R179, R181, R183, R185) -/

/-- The laws of the image store, for each bank. -/
structure State.Stored (s : State) : Prop where
  staging : s.images.staging.wf = true
  content : ∀ i, (s.images.bank i).content.wf = true
  law : ∀ i, s.bankLaw i

section
variable {s t : State}

theorem stored_of_laws (hbuffer : s.bufferLaw) (hburn : s.burnLaw) : s.Stored := by
  obtain ⟨hstaging, ha, hb⟩ := hbuffer
  refine ⟨hstaging, fun i => ?_, bankLaw_of_burnLaw hburn⟩
  cases i
  · exact ha
  · exact hb

theorem State.Stored.bufferLaw (h : s.Stored) : s.bufferLaw := ⟨h.staging, h.content .a, h.content .b⟩

theorem State.Stored.burnLaw (h : s.Stored) : s.burnLaw := ⟨h.law .a, h.law .b⟩

/-- An operation that leaves the buffers, and does not enter STARTING. -/
theorem State.Stored.congr (h : s.Stored) (hst : t.images.staging = s.images.staging)
    (hb : t.images.burning = s.images.burning) (hbank : ∀ i, t.images.bank i = s.images.bank i)
    (hp : t.part = .starting → s.part = .starting) : t.Stored := by
  refine ⟨by rw [hst]; exact h.staging, fun i => by rw [hbank]; exact h.content i, fun i => ?_⟩
  obtain ⟨hburning, hmarks⟩ := h.law i
  refine ⟨fun hi => ?_, by rw [hbank]; exact hmarks⟩
  obtain ⟨hs, hf, hst', htag, hcheck, hpart⟩ := hburning (hb.symm.trans hi)
  rw [hbank, hst]
  exact ⟨hs, hf, hst', htag, hcheck, fun hstarting => hpart (hp hstarting)⟩

theorem State.Stored.keep (h : s.Stored) (hi : t.images = s.images) (hp : t.part = .starting → s.part = .starting) :
    t.Stored := h.congr (by rw [hi]) (by rw [hi]) (fun i => by rw [hi]) hp

/-- With no burn in flight, a bank has only its marks and its derived state to keep. -/
theorem stored_of_idle (hb : t.images.burning = none) (hst : t.images.staging.wf = true)
    (hc : ∀ i, (t.images.bank i).content.wf = true)
    (hm : ∀ i, (t.images.bank i).finished = true → (t.images.bank i).started = true)
    (hs : ∀ i, (t.images.bank i).started = true → (t.images.bank i).state ≠ .blank) : t.Stored :=
  ⟨hst, hc, fun i => ⟨fun hi => absurd (hb.symm.trans hi) nofun, hm i, hs i⟩⟩

theorem derive_ne_blank {b : Bank} (hs : b.started = true) : b.derive ≠ .blank := by
  unfold Bank.derive
  rw [if_neg (by simp [hs])]
  split <;> exact nofun

/-- In STARTING no burn is in flight (R185). -/
theorem State.Stored.idle_of_starting (h : s.Stored) (hp : s.part = .starting) : s.images.burning = none := by
  cases hb : s.images.burning with
  | none => rfl
  | some i =>
    obtain ⟨-, -, -, -, -, hno⟩ := (h.law i).1 hb
    exact absurd hp hno

/-! ### A burn cut by a reset -/

theorem wf_cutContent (index : Nat) (old staging : Memory) : (cutContent index old staging).wf = true :=
  Memory.wf_ofBytes 0 _ (by rw [List.length_map, List.length_range, Nat.zero_add])

theorem State.Stored.wf_cut (h : s.Stored) (index : Nat) (i : BankId) :
    ((s.images.cut index).bank i).content.wf = true := by
  unfold ImageStore.cut
  cases hb : s.images.burning with
  | none => exact h.content i
  | some j =>
    dsimp only
    rw [bank_with_burning]
    by_cases hij : j = i
    · rw [hij, bank_setBank_self]
      dsimp only
      exact wf_cutContent index (s.images.bank i).content s.images.staging
    · rw [bank_setBank_ne _ _ hij]
      exact h.content i

theorem State.Stored.cut_marks (h : s.Stored) (index : Nat) (i : BankId) :
    (((s.images.cut index).bank i).finished = true → ((s.images.cut index).bank i).started = true) ∧
    (((s.images.cut index).bank i).started = true → ((s.images.cut index).bank i).state ≠ .blank) := by
  obtain ⟨hstarted, hfinished, hkeep, hspoilt⟩ := bank_cut s.images index i
  obtain ⟨-, hmarks, hstate⟩ := h.law i
  rw [hstarted, hfinished]
  refine ⟨hmarks, fun hs => ?_⟩
  by_cases hb : s.images.burning = some i
  · rw [hspoilt hb]
    exact nofun
  · rw [hkeep hb]
    exact hstate hs

/-- After a reset that cuts the burn in flight, whatever becomes of the staging buffer. -/
theorem State.Stored.cut (h : s.Stored) (index : Nat) (hb : t.images.burning = none)
    (hst : t.images.staging.wf = true) (hbank : ∀ i, t.images.bank i = (s.images.cut index).bank i) : t.Stored :=
  stored_of_idle hb hst (fun i => by rw [hbank]; exact h.wf_cut index i)
    (fun i => by rw [hbank]; exact (h.cut_marks index i).1) fun i => by rw [hbank]; exact (h.cut_marks index i).2

/-! ### CAPTURE, WRITE STAGING and BURN -/

theorem State.Stored.setStaging (h : s.Stored) (hb : s.images.burning = none) {m : Memory} (hm : m.wf = true) :
    (s.setImages { s.images with staging := m }).Stored := by
  have hbank : ∀ i, ({ s.images with staging := m } : ImageStore).bank i = s.images.bank i := fun i => by
    cases i <;> rfl
  refine stored_of_idle hb hm (fun i => ?_) (fun i => ?_) fun i => ?_
  · rw [State.setImages_images, hbank]
    exact h.content i
  · rw [State.setImages_images, hbank]
    exact (h.law i).2.1
  · rw [State.setImages_images, hbank]
    exact (h.law i).2.2

theorem checkWord_congr {m y : Memory} (h : ∀ a, a < imageCheck → y.read a = m.read a) :
    y.checkWord = m.checkWord := by
  rw [checkWord_eq, checkWord_eq]
  refine congrArg (fun l => (crc16 l).toNat) (List.map_congr_left fun a ha => h a (List.mem_range.mp ha))

/-- A buffer with its check word in its last two bytes has a good check word, and its format tag (R180, R183). -/
theorem checked_staging {m : Memory} (hwf : m.wf = true) (htag : m.tagPresent = true) :
    let y := m.writeAll imageCheck (bytes2 m.checkWord)
    y.wf = true ∧ y.tagPresent = true ∧ y.checkGood = true := by
  obtain ⟨hform, hothers, hhigh, hlow⟩ := withCheckWord_reads hwf m.checkWord
  refine ⟨hform, ?_, ?_⟩
  · rw [tagPresent_iff] at htag ⊢
    rw [hothers 0 (by decide) (by decide), hothers 1 (by decide) (by decide)]
    exact htag
  · rw [Memory.checkGood, checkWord_congr fun a ha => hothers a (Nat.ne_of_lt ha) (Nat.ne_of_lt (Nat.lt_succ_of_lt ha)),
      beq_iff_eq]
    change [_, _] = [_, _]
    rw [← hhigh, ← hlow]
    rfl

theorem State.Stored.startBurn (h : s.Stored) (hp : s.part ≠ .starting) {i : BankId}
    (htag : s.images.staging.tagPresent = true) (hblank : (s.images.bank i).state = .blank) :
    (s.setImages (s.images.startBurn i)).Stored := by
  have hunfinished := unfinished_of_blank (h.law i) hblank
  obtain ⟨hwf, htag', hcheck⟩ := checked_staging h.staging htag
  have hself : (s.images.startBurn i).bank i = { s.images.bank i with started := true, state := .spoilt } := by
    rw [startBurn_eq hunfinished, bank_setBank_self]
  have hother : ∀ j, i ≠ j → (s.images.startBurn i).bank j = s.images.bank j := fun j hij => by
    rw [startBurn_eq hunfinished, bank_setBank_ne _ _ hij]
    cases j <;> rfl
  have hstaging : (s.images.startBurn i).staging =
      s.images.staging.writeAll imageCheck (bytes2 s.images.staging.checkWord) := staging_setBank _ _ _
  have hburning : (s.images.startBurn i).burning = some i := by cases i <;> rfl
  refine ⟨hstaging ▸ hwf, fun j => ?_, fun j => ?_⟩
  · by_cases hij : i = j
    · rw [State.setImages_images, ← hij, hself]
      exact h.content i
    · rw [State.setImages_images, hother j hij]
      exact h.content j
  · by_cases hij : i = j
    · subst hij
      refine ⟨fun _ => ?_, fun _ => ?_, fun _ => ?_⟩ <;> rw [State.setImages_images, hself]
      · rw [hstaging]
        exact ⟨rfl, hunfinished, rfl, htag', hcheck, hp⟩
      · exact nofun
    · simp only [State.bankLaw, State.setImages_images, hother j hij, hburning]
      exact ⟨fun hj => absurd (Option.some.inj hj) hij, (h.law j).2⟩

/-! ### The end of a burn -/

theorem wf_readBack {staging : Memory} (h : staging.wf = true) (misread : List (Fin 512 × Byte)) :
    (readBack staging misread).wf = true :=
  foldl_invariant (P := fun m : Memory => m.wf = true) misread h fun _ c _ hm => Memory.wf_write c.2 hm c.1.isLt

/-- Bank `i` as the end of its burn leaves it: started, and not BLANK. -/
theorem State.Stored.burnEnds (h : s.Stored) {i : BankId} {b : Bank}
    (ht : t.images = ({ s.images with burning := none } : ImageStore).setBank i b) (hwf : b.content.wf = true)
    (hs : b.started = true) (hst : b.state ≠ .blank) : t.Stored := by
  have hself : t.images.bank i = b := by rw [ht, bank_setBank_self]
  have hother : ∀ j, i ≠ j → t.images.bank j = s.images.bank j := fun j hij => by
    rw [ht, bank_setBank_ne _ _ hij, bank_with_burning]
  refine stored_of_idle (by rw [ht]; cases i <;> rfl) (by rw [ht, staging_setBank]; exact h.staging) (fun j => ?_)
    (fun j => ?_) fun j => ?_ <;> by_cases hij : i = j
  · rw [← hij, hself]
    exact hwf
  · rw [hother j hij]
    exact h.content j
  · rw [← hij, hself]
    exact fun _ => hs
  · rw [hother j hij]
    exact (h.law j).2.1
  · rw [← hij, hself]
    exact fun _ => hst
  · rw [hother j hij]
    exact (h.law j).2.2

/-! ## The laws, taken together -/

/-- What the part shows and keeps: its lines, its ports and its image store. -/
structure State.Outward (s : State) : Prop where
  output : s.outputLaw
  ports : s.portLaw
  stored : s.Stored

theorem outward_of_lawful (h : s.lawful) : s.Outward := by
  obtain ⟨-, -, -, -, -, -, hports, houtput, hbuffer, hburn⟩ := h
  exact ⟨houtput, hports, stored_of_laws hbuffer hburn⟩

/-- A happening that ends by setting the lines. -/
theorem outward_settle (hports : s.portLaw) (hstored : s.Stored) : s.settle.Outward :=
  ⟨settle_outputLaw s, hports, hstored.keep rfl id⟩

/-! ## Requests -/

/-- What every request's own rule leaves: the ports as they were, an answer that fits a response, and a lawful image
store. -/
structure State.Replies (s : State) (out : State × Answer) : Prop where
  ports : out.1.ports = s.ports
  mport : out.1.mport = s.mport
  fits : out.2.content.length ≤ longestContent
  stored : s.Stored → s.part ≠ .starting → out.1.Stored

theorem State.Answers.replies {out : State × Answer} (h : s.Answers out) : s.Replies out := by
  obtain ⟨hframe, -, hfits⟩ := h
  exact ⟨by rw [hframe]; rfl, by rw [hframe]; rfl, hfits, fun hs _ => by rw [hframe]; exact hs.keep rfl id⟩

theorem replies_bare (st : Status) : s.Replies (s, .bare st) := (answers_bare st).replies

theorem withClient_replies {number : Nat} {rule : Client → State × Answer} (h : ∀ n, s.Replies (rule n)) :
    s.Replies (s.withClient number rule) := by
  unfold State.withClient
  split
  · exact h _
  · exact replies_bare _

theorem openRule_replies (n : Client) (args : List Byte) : s.Replies (openRule n args s) := by
  unfold openRule
  split
  · exact ⟨rfl, rfl, (by decide : (1 : Nat) ≤ longestContent), fun hs _ => hs.keep rfl id⟩
  · exact ⟨rfl, rfl, (by decide : (1 : Nat) ≤ longestContent), fun hs _ => hs.keep rfl id⟩
  · exact replies_bare _

theorem setHeartbeatRule_replies (n : Client) (args : List Byte) : s.Replies (setHeartbeatRule n args s) := by
  unfold setHeartbeatRule
  split
  · exact replies_bare _
  · exact ⟨rfl, rfl, (by decide : (1 : Nat) ≤ longestContent), fun hs _ => hs.keep rfl id⟩

theorem barRule_replies (args : List Byte) : s.Replies (barRule args s) :=
  withClient_replies fun n => by
    split
    · exact replies_bare _
    · exact ⟨rfl, rfl, (by decide : (2 : Nat) ≤ longestContent), fun hs _ => hs.keep rfl id⟩

theorem unbarRule_replies (args : List Byte) : s.Replies (unbarRule args s) :=
  withClient_replies fun n => by
    split
    · exact ⟨rfl, rfl, Nat.zero_le _, fun hs _ => hs.keep rfl id⟩
    · exact replies_bare _

theorem setQuotaRule_replies (args : List Byte) : s.Replies (setQuotaRule args s) :=
  withClient_replies fun n => by
    dsimp only
    split
    · exact ⟨rfl, rfl, Nat.zero_le _, fun hs _ => hs.keep rfl id⟩
    · exact replies_bare _

theorem setDividerRule_replies (args : List Byte) : s.Replies (setDividerRule args s) := by
  unfold setDividerRule
  dsimp only
  split
  · exact replies_bare _
  · exact ⟨rfl, rfl, (by decide : (2 : Nat) ≤ longestContent), fun hs _ => hs.keep rfl id⟩

theorem captureRule_replies (args : List Byte) : s.Replies (captureRule args s) := by
  unfold captureRule
  split
  · exact replies_bare _
  · rename_i hb
    exact ⟨rfl, rfl, Nat.zero_le _, fun hs _ => hs.setStaging (Option.not_isSome_iff_eq_none.mp hb) (wf_imageOf _ _)⟩

theorem writeStagingRule_replies (args : List Byte) : s.Replies (writeStagingRule args s) := by
  unfold writeStagingRule
  dsimp only
  split
  · exact replies_bare _
  · rename_i hrange
    split
    · exact replies_bare _
    · rename_i hb
      refine ⟨rfl, rfl, Nat.zero_le _, fun hs _ => hs.setStaging (Option.not_isSome_iff_eq_none.mp hb) ?_⟩
      exact Memory.wf_writeAll _ hs.staging (Nat.not_lt.mp fun hlt => hrange (.inr hlt))

theorem burnRule_replies (args : List Byte) : s.Replies (burnRule args s) := by
  unfold burnRule
  split
  · exact replies_bare _
  · split
    · exact replies_bare _
    · rename_i htag
      split
      · exact replies_bare _
      · rename_i hblank
        split
        · exact replies_bare _
        · exact ⟨rfl, rfl, Nat.zero_le _, fun hs hp =>
            hs.startBurn hp (Decidable.not_not.mp htag) (Decidable.not_not.mp hblank)⟩

theorem enterSafeRule_replies (args : List Byte) : s.Replies (enterSafeRule args s) :=
  ⟨rfl, rfl, (by decide : (2 : Nat) ≤ longestContent), fun hs _ => hs.keep rfl nofun⟩

theorem placeClient_portLaw {out : State × Answer} (h : s.portLaw) (hr : s.Replies out) (n : Client) (k : ClientKind) :
    (out.1.placeClient n k out.2).portLaw :=
  portLaw_setPort ⟨fun m => by rw [State.port, hr.ports]; exact h.1 m, by rw [hr.mport]; exact h.2⟩
    (Port.sound_place _ _ hr.fits)

theorem placeMgmt_portLaw {out : State × Answer} (h : s.portLaw) (hr : s.Replies out) (k : MgmtKind) :
    (out.1.placeMgmt k out.2).portLaw :=
  ⟨fun m => by
    change (Table.get out.1.ports m).sound = true
    rw [hr.ports]
    exact h.1 m, Port.sound_place _ _ hr.fits⟩

theorem takeClient_outward {k : ClientKind} {n : Client} {rule : List Byte → State → State × Answer} (h : s.Outward)
    (hrule : ∀ args (u : State), u.Replies (rule args u)) : (s.takeClient k n rule).Outward := by
  have hplaced : ∀ (out : State × Answer) (q : Request ClientKind), (s.serve n).Replies out → s.part ≠ .starting →
      (out.1.placeClient n q.kind out.2).settle.Outward := fun out q hr hp =>
    outward_settle (placeClient_portLaw (s := s.serve n) h.ports hr n q.kind)
      ((hr.stored (h.stored.keep rfl id) hp).keep rfl id)
  by_cases hh : s.handed = some (k.command n)
  · obtain ⟨q, hq, -⟩ := handed_request hh
    rw [takeClient_handed hh hq]
    cases hr : s.clientRefusal n q with
    | none =>
      rw [answerClient_passed hr]
      exact hplaced _ q (hrule q.args (s.serve n)) (part_of_handed hh)
    | some st =>
      rw [answerClient_refused hr]
      exact hplaced (s.serve n, .bare st) q (replies_bare st) (part_of_handed hh)
  · rw [takeClient_not_handed hh]
    exact h

theorem takeMgmt_outward {k : MgmtKind} {rule : List Byte → State → State × Answer} (h : s.Outward)
    (hrule : ∀ args, s.Replies (rule args s)) : (s.takeMgmt k rule).Outward := by
  have hplaced : ∀ (out : State × Answer) (q : Request MgmtKind), s.Replies out → s.part ≠ .starting →
      (out.1.placeMgmt q.kind out.2).settle.Outward := fun out q hr hp =>
    outward_settle (placeMgmt_portLaw h.ports hr q.kind) ((hr.stored h.stored hp).keep rfl id)
  by_cases hh : s.handed = some k.command
  · obtain ⟨q, hq, rfl⟩ := handed_mgmtRequest hh
    by_cases hav : q.kind.available s.part = true
    · rw [takeMgmt_admitted ⟨hh, hq, hav⟩]
      exact hplaced _ q (hrule q.args) (part_of_handed hh)
    · rw [takeMgmt_handed hh hq, answerMgmt_refused (Bool.eq_false_iff.mpr hav)]
      exact hplaced (s, .bare (unavailableStatus s.part)) q (replies_bare _) (part_of_handed hh)
  · rw [takeMgmt_not_handed hh]
    exact h

theorem exec_client_outward (h : s.Outward) {k : ClientKind} {n : Client} (hx : exec (k.command n) s = .next t) :
    t.Outward := by
  cases k <;> cases hx <;> refine takeClient_outward h fun args u => ?_
  case openSession => exact openRule_replies n args
  case closeSession => exact ⟨rfl, rfl, Nat.zero_le _, fun hs _ => hs.keep rfl id⟩
  case status => exact (statusRule_answers n args).replies
  case setHeartbeat => exact setHeartbeatRule_replies n args
  case acquire => exact (acquireRule_answers n args).replies
  case renew => exact (renewRule_answers n args).replies
  case release => exact (releaseRule_answers n args).replies
  case cancel => exact (cancelRule_answers n args).replies
  case scan => exact (scanRule_answers n args).replies
  case ack => exact (ackRule_answers n args).replies
  case queryLease => exact (queryLeaseRule_answers _ args).replies
  case queryResource => exact (queryResourceRule_answers args).replies
  case checkFence => exact (checkFenceRule_answers args).replies

theorem exec_mgmt_outward (h : s.Outward) {k : MgmtKind} (hk : k ≠ .serviceReset)
    (hx : exec k.command s = .next t) : t.Outward := by
  cases k
  case serviceReset => exact absurd rfl hk
  all_goals cases hx; refine takeMgmt_outward h fun args => ?_
  case queryLease => exact (queryLeaseRule_answers _ args).replies
  case queryResource => exact (queryResourceRule_answers args).replies
  case checkFence => exact (checkFenceRule_answers args).replies
  case defineResource => exact (defineResourceRule_answers args).replies
  case readDefinition => exact (readDefinitionRule_answers args).replies
  case setProfile => exact (setProfileRule_answers args).replies
  case readProfile => exact (readProfileRule_answers args).replies
  case setQuota => exact setQuotaRule_replies args
  case setDivider => exact setDividerRule_replies args
  case bar => exact barRule_replies args
  case unbar => exact unbarRule_replies args
  case forceRevoke => exact (forceRevokeRule_answers args).replies
  case lift => exact (liftRule_answers args).replies
  case takeOffline => exact (takeOfflineRule_answers args).replies
  case bringOnline => exact (bringOnlineRule_answers args).replies
  case enterMaintenance | leaveMaintenance => exact ⟨rfl, rfl, Nat.zero_le _, fun hs _ => hs.keep rfl nofun⟩
  case enterSafe => exact enterSafeRule_replies args
  case partStatus => exact (partStatusRule_answers args).replies
  case querySession => exact (querySessionRule_answers args).replies
  case capture => exact captureRule_replies args
  case writeStaging => exact writeStagingRule_replies args
  case readStaging => exact (readStagingRule_answers args).replies
  case burn => exact burnRule_replies args
  case bankStatus => exact (bankStatusRule_answers args).replies

/-! ## The buses -/

/-- A happening that changes ports alone. -/
theorem State.Outward.withPorts (h : s.Outward) (hports : t.portLaw) (hout : t.outputLaw = s.outputLaw)
    (hi : t.images = s.images) (hp : t.part = s.part) : t.Outward :=
  ⟨hout ▸ h.output, hports, h.stored.keep hi fun hs => hp ▸ hs⟩

theorem State.Outward.serveFetch (h : s.Outward) (n : Client) (clocked : Nat) : (s.serveFetch n clocked).Outward := by
  unfold State.serveFetch
  split
  · exact h
  · exact h.withPorts (portLaw_setPort h.ports (Port.sound_afterFetch (h.ports.1 n) _)) rfl rfl rfl

theorem State.Outward.serveRequest (h : s.Outward) (n : Client) (bytes : List Byte) :
    (s.serveRequest n bytes).Outward := by
  unfold State.serveRequest
  split
  · exact h
  · exact h.withPorts (portLaw_setPort h.ports (Port.sound_deliver _ _ _)) rfl rfl rfl

theorem State.Outward.mportWrite (h : s.Outward) (address : BitVec 7) (bytes : List Byte) :
    (s.mportWrite address bytes).Outward := by
  unfold State.mportWrite
  split
  · split
    · exact h.withPorts h.ports rfl rfl rfl
    · exact h.withPorts ⟨h.ports.1, Port.sound_deliver _ _ _⟩ rfl rfl rfl
  · exact h.withPorts h.ports rfl rfl rfl

theorem State.Outward.mportRead (h : s.Outward) (address : BitVec 7) (clocked : Nat) :
    (s.mportRead address clocked).Outward := by
  unfold State.mportRead
  split
  · exact h.withPorts ⟨h.ports.1, Port.sound_afterFetch h.ports.2 _⟩ rfl rfl rfl
  · exact h.withPorts h.ports rfl rfl rfl

/-! ## Ticks, renewals and the end of a burn -/

/-- A tick produced shows nowhere until it is taken (R67). -/
theorem State.Outward.produceTick (h : s.Outward) (hb : Vector Bool 6) : (s.produceTick hb).Outward := by
  rw [State.produceTick, countTick_eq]
  exact h.withPorts h.ports rfl rfl rfl

theorem State.Outward.referencePeriod (h : s.Outward) : s.referencePeriod.Outward := by
  unfold State.referencePeriod
  split
  · split
    · exact h.produceTick _
    · exact h.withPorts h.ports rfl rfl rfl
  · exact h

theorem State.Outward.takeTickIf (h : s.Outward) (p : Bool) : (s.takeTickIf p).Outward := by
  unfold State.takeTickIf
  split
  · exact outward_settle h.ports (h.stored.keep rfl id)
  · exact h

theorem exec_renewAll_outward (h : s.Outward) {n : Client} (hx : exec (.renewAll n) s = .next t) : t.Outward := by
  cases hx
  split
  · exact outward_settle h.ports (h.stored.keep rfl id)
  · exact h

theorem exec_burnEnd_outward (h : s.Outward) {misread : List (Fin 512 × Byte)}
    (hx : exec (.burnEnd misread) s = .next t) : t.Outward := by
  cases hb : s.images.burning with
  | none =>
    simp only [exec, execBurnEnd, hb] at hx
    cases hx
    exact h
  | some i =>
    obtain ⟨hstarted, -⟩ := (h.stored.law i).1 hb
    obtain ⟨hmatch, hdiffer⟩ := exec_burnEnd hb misread
    by_cases hsame : readBack s.images.staging misread = s.images.staging
    · rw [hmatch hsame] at hx
      cases hx
      exact ⟨h.output, h.ports, h.stored.burnEnds rfl h.stored.staging hstarted (derive_ne_blank hstarted)⟩
    · rw [hdiffer hsame] at hx
      cases hx
      exact ⟨h.output, h.ports, h.stored.burnEnds rfl (wf_readBack h.stored.staging misread) hstarted nofun⟩

/-! ## Resets and the load -/

theorem exec_powerOnReset_outward (h : s.Outward) {straps : Fin 4} {skip : Bool}
    (hx : exec (.powerOnReset straps skip) s = .next t) : t.Outward := by
  rw [execPowerOnReset_eq] at hx
  cases hx
  obtain ⟨houtput, hports, -⟩ := outward_of_lawful resetIsLawful
  refine ⟨houtput, hports, stored_of_idle (cut_burning s.images s.freeIndex) Memory.wf_nil (fun i => ?_) (fun i => ?_)
    fun i => ?_⟩ <;> rw [bank_poweredOn]
  · exact h.stored.wf_cut s.freeIndex i
  · exact (h.stored.cut_marks s.freeIndex i).1
  · exact derive_ne_blank

theorem exec_resetPinAssert_outward (h : s.Outward) (hx : exec .resetPinAssert s = .next t) : t.Outward := by
  have hsettled : ∃ u : State, t = u.settle := by cases hx; exact ⟨_, rfl⟩
  have houtput : t.outputLaw := by
    obtain ⟨u, rfl⟩ := hsettled
    exact settle_outputLaw u
  rw [execResetPinAssert_eq] at hx
  cases hx
  exact ⟨houtput, portLaw_cleared rfl rfl, h.stored.cut s.freeIndex (cut_burning _ _) Memory.wf_nil fun i => by
    cases i <;> rfl⟩

theorem exec_serviceReset_outward (h : s.Outward) (hx : exec .serviceReset s = .next t) : t.Outward := by
  by_cases hh : s.handed = some .serviceReset
  · rw [exec_serviceReset_handed hh, restart_eq] at hx
    cases hx
    refine outward_settle (portLaw_cleared rfl ?_) (h.stored.cut s.freeIndex (cut_burning _ _) ?_ fun _ => rfl)
    · exact Port.sound_place s.mport MgmtKind.serviceReset.code (a := .bare .ok) (Nat.zero_le _)
    · exact (congrArg Memory.wf (cut_staging s.images s.freeIndex)).trans h.stored.staging
  · rw [show exec .serviceReset s = .next s from exec_mgmt_not_handed (k := .serviceReset) hh] at hx
    cases hx
    exact h

/-- A load begins in STARTING, where the lines are undriven already and no burn is in flight (R38, R187). -/
theorem exec_resetPinRelease_outward (h : s.Outward) (hsteady : s.Steady) {straps : Fin 4} {skip : Bool}
    (hx : exec (.resetPinRelease straps skip) s = .next t) : t.Outward := by
  cases hx
  split
  · rename_i hpin
    obtain ⟨hstarting, -, hr⟩ := (reasons_of_count hsteady.phase).2.2.1 hpin
    have hbank : ∀ i, (s.startLoad straps skip).images.bank i = (s.images.bank i).derived := fun i => by
      cases i <;> rfl
    refine ⟨?_, h.ports, stored_of_idle (h.stored.idle_of_starting hstarting) h.stored.staging (fun i => ?_)
      (fun i => ?_) fun i => ?_⟩
    · obtain ⟨hlines, hattention⟩ := h.output
      refine ⟨fun n => (hlines n).trans ?_, hattention⟩
      unfold State.lineByRule
      rw [show s.restarting = (s.startLoad straps skip).restarting from hr]
      rfl
    all_goals rw [hbank]
    · exact h.stored.content i
    · exact (h.stored.law i).2.1
    · exact derive_ne_blank
  · exact h

theorem exec_loadEnd_outward (h : s.Outward) (hx : exec .loadEnd s = .next t) : t.Outward := by
  cases hx
  split
  · rw [finishLoad_eq]
    refine outward_settle h.ports (h.stored.congr rfl rfl (fun i => by cases i <;> rfl) fun hp => ?_)
    split at hp
    · exact absurd hp nofun
    · exact absurd hp nofun
  · exact h

/-! ## Every command -/

/-- Every command keeps the lines, the ports and the image store lawful. -/
theorem exec_outward {c : Instr} (h : s.Outward) (hsteady : s.Steady) (hx : exec c s = .next t) : t.Outward := by
  induction c using Instr.byRow with
  | client k n => exact exec_client_outward h hx
  | mgmt k =>
    by_cases hk : k = .serviceReset
    · subst hk
      exact exec_serviceReset_outward h hx
    · exact exec_mgmt_outward h hk hx
  | renewAll n => exact exec_renewAll_outward h hx
  | requestTransaction n select bytes stray =>
    cases hx
    split_ifs
    · exact h.serveFetch n _
    · exact h.serveRequest n bytes
    · exact h
  | fetch n select clocked stray =>
    cases hx
    split
    · exact h.serveFetch n clocked
    · exact h
  | managementWrite start bytes =>
    cases hx
    split
    · exact h
    · exact h.mportWrite _ bytes
  | managementRead start clocked =>
    cases hx
    split
    · exact h
    · exact h.mportRead _ clocked
  | restartComplete =>
    cases hx
    split
    · exact outward_settle h.ports (h.stored.keep rfl nofun)
    · exact h
  | burnEnd misread => exact exec_burnEnd_outward h hx
  | tick hb =>
    cases hx
    split
    · exact h.produceTick hb
    · exact h
  | tickTaken => cases hx; exact h.takeTickIf _
  | lapse k => cases hx; exact h.takeTickIf _
  | expiry k => cases hx; exact h.takeTickIf _
  | quarantineEnd r => cases hx; exact h.takeTickIf _
  | powerOnReset straps skip => exact exec_powerOnReset_outward h hx
  | resetPinAssert => exact exec_resetPinAssert_outward h hx
  | resetPinRelease straps skip => exact exec_resetPinRelease_outward h hsteady hx
  | loadEnd => exact exec_loadEnd_outward h hx

theorem step_outward (h : s.Outward) (hsteady : s.Steady) (hstep : step s = .next t) : t.Outward := by
  refine (step_keeps (P := fun u => u.Outward ∧ u.Steady) hstep (fun rest => ?_) (fun hu => ?_)
    fun c u v hu hx => ?_).1
  · exact ⟨h.withPorts h.ports rfl rfl rfl,
      ⟨hsteady.quotas, hsteady.divider, hsteady.phase, hsteady.rest, hsteady.clock, hsteady.heartbeats⟩⟩
  · exact ⟨hu.1.referencePeriod, hu.2.referencePeriod⟩
  · exact ⟨exec_outward hu.1 hu.2 hx, exec_steady hu.2 hx⟩

end

/-- Settles O56, command by command. -/
theorem everyStepKeepsTheOutputPortAndImageLaws : Obligations.EveryStepKeepsTheOutputPortAndImageLaws := by
  intro s t h hstep
  obtain ⟨houtput, hports, hstored⟩ := step_outward (outward_of_lawful h) (steady_of_lawful h) hstep
  exact ⟨houtput, hports, hstored.bufferLaw, hstored.burnLaw⟩

end Sys2Proof.Machine
end
